-- ==== Sys2Proof/Word.lean ====
section
/-! DEFINITION. The words of the TCFM and the records that cross its ports (10_state.md rules R21 to R24). -/

namespace Sys2Proof

/-- A register payload, `REG_W` = 16 bits (00_scope.md R5). -/
abbrev Half := BitVec 16

/-- A binary32 operand or a RESULT, 32 bits (10_state.md R21, R22). -/
abbrev Word := BitVec 32

/-- A register pointer, `PTR_W` = 8 bits (00_scope.md R5, 20_memory.md R50). -/
abbrev Ptr := BitVec 8

/-- A sensor's bus address, `ADDR_W` = 7 bits (00_scope.md R5, 20_memory.md R51). -/
abbrev DevAddr := BitVec 7

/-- A command packet `{CMD[15:0], A[31:0], B[31:0]}` (10_state.md R21, 30_encoding.md R81). -/
structure Packet where
  cmd : Half
  a   : Word
  b   : Word
deriving DecidableEq, Repr, Inhabited

/-- The four STATUS values (60_exceptions.md R170). -/
inductive Status where
  | ok | xfail | domain | illegal
deriving DecidableEq, Repr

/-- A response `{STATUS[1:0], RESULT[31:0]}` on the host port (10_state.md R22). -/
structure Response where
  status : Status
  result : Word
deriving DecidableEq, Repr

/-- A register transaction's request (10_state.md R23).
`wdata` "is meaningful only for WRITE", so a READ carries none. -/
inductive Request where
  | read  (addr : DevAddr) (ptr : Ptr)
  | write (addr : DevAddr) (ptr : Ptr) (wdata : Half)
deriving DecidableEq, Repr

/-- The transport's response `{fail[0], rdata[15:0]}` (10_state.md R23). -/
structure Answer where
  fail  : Bool
  rdata : Half
deriving DecidableEq, Repr, Inhabited

/-- The levels of all input pins in one step: reset and configuration (10_state.md R24), the packet
the host newly offers (R21), and the transport's answer to the request standing in this step (R23). -/
structure Pins where
  rst        : Bool
  cfgAddrSel : BitVec 3
  cfgRes     : BitVec 2
  offer      : Option Packet
  answer     : Option Answer
deriving DecidableEq, Repr, Inhabited

/-- No input: not in reset, nothing offered, no answer. -/
def Pins.quiet : Pins := { rst := false, cfgAddrSel := 0, cfgRes := 0, offer := none, answer := none }

end Sys2Proof
end

