-- ==== Sys2Proof/Config.lean ====
section
/-! DEFINITION. The named constants of 00_scope.md rule R5 at the values it lists (log 13), the
parameter `ENC_ROUND` of 93_implementation_defined.md I3 (log 14), and the free values (logs 1, 9). -/

namespace Sys2Proof.Config

/-- `ADDR_BASE` (00_scope.md R5, 20_memory.md R55). -/
def addrBase : DevAddr := 0x18
/-- `MFG_ID_EXPECTED` (00_scope.md R5, 20_memory.md R65). -/
def mfgIdExpected : Half := 0x0054

/-- `PTR_CONFIG` (00_scope.md R5, 20_memory.md R61). -/
def ptrConfig : Ptr := 0x01
/-- `PTR_ALERT_UPPER`. -/
def ptrAlertUpper : Ptr := 0x02
/-- `PTR_ALERT_LOWER`. -/
def ptrAlertLower : Ptr := 0x03
/-- `PTR_CRITICAL`. -/
def ptrCritical : Ptr := 0x04
/-- `PTR_TEMPERATURE`. -/
def ptrTemperature : Ptr := 0x05
/-- `PTR_MFG_ID`. -/
def ptrMfgId : Ptr := 0x06
/-- `PTR_DEVICE_ID`, "never accessed by TCFM" (20_memory.md R66). -/
def ptrDeviceId : Ptr := 0x07
/-- `PTR_RESOLUTION`. -/
def ptrResolution : Ptr := 0x08

/-- `CFG_ALERT_EN`, CONFIG bit 3 (20_memory.md R62). -/
def cfgAlertEn : Half := 0x0008
/-- `CFG_SHDN`, CONFIG bit 8 (20_memory.md R62). -/
def cfgShdn : Half := 0x0100
/-- `TEMP_SIGN`, bit 12 (40_codec.md R102, R110). -/
def tempSign : Half := 0x1000
/-- `TEMP_MAG_MASK`, bits 11:0 (40_codec.md R102). -/
def tempMagMask : Half := 0x0FFF
/-- `RES_SHIFT` (40_codec.md R120). -/
def resShift : Nat := 8

/-- How a build rounds the encoder's intermediate `value + 256.0` (93_implementation_defined.md I3). -/
inductive EncRound where
  | exact | binary32 | binary64
deriving DecidableEq, Repr

/-- `ENC_ROUND`, default `exact`: "TCFM is exact" (93_implementation_defined.md I3, 92 D4). -/
def encRound : EncRound := .exact

/-- Free: the input pins of step number `n` where no script lays them down (log 1). -/
opaque freePins : Nat → Pins
/-- Free: what CUR holds after a reset in step number `n` (70_reset_and_hazards.md R190, log 9). -/
opaque freeCur : Nat → Packet
/-- Free: what CFGTMP holds after a reset in step number `n` (70_reset_and_hazards.md R190, log 9). -/
opaque freeCfgTmp : Nat → Half
/-- Free: what RDTMP holds after a reset in step number `n` (70_reset_and_hazards.md R190, log 9). -/
opaque freeRdTmp : Nat → Half

end Sys2Proof.Config
end

