-- ==== Sys2Proof/Syntax.lean ====
section
/-! DEFINITION. The ten commands of 30_encoding.md rule R83 with the operands each names (R82). -/

namespace Sys2Proof

/-- One constructor per row of the opcode table; the operands are those rule R82 names, each at its
own width, and nothing else of the packet ("a command reads no other operand bits"). -/
inductive Instr where
  /-- BEGIN (41_driver.md R130). -/
  | begin
  /-- READ (41_driver.md R135). -/
  | read
  /-- SETALARMS: `A` = lower, `B` = upper, both binary32 (41_driver.md R140). -/
  | setAlarms (lower upper : Word)
  /-- DISALARMS (41_driver.md R145). -/
  | disAlarms
  /-- SDON (41_driver.md R150). -/
  | sdOn
  /-- SDOFF (41_driver.md R155). -/
  | sdOff
  /-- SETRES: `IMM8` = code (41_driver.md R160). -/
  | setRes (code : BitVec 8)
  /-- DECODE: `A[15:0]` = raw (40_codec.md R105). -/
  | decode (raw : Half)
  /-- ENCTHR: `A` = value, binary32 (40_codec.md R116). -/
  | encThr (value : Word)
  /-- ENCRES: `IMM8` = code (40_codec.md R121). -/
  | encRes (code : BitVec 8)
deriving DecidableEq, Repr

end Sys2Proof
end

