-- ==== Sys2Proof/WellFormed.lean ====
section
/-! DEFINITION. Which command words are valid (30_encoding.md rules R80, R83, R84).
A term of `Instr` cannot be ill-formed: every operand is a bit vector of its field's width, and every
value of it is legal (R82). What can be ill-formed is a command word, and the three checks below are the
three groups of illegal words that R84 names. -/

namespace Sys2Proof

/-- The command word `cmd` has opcode `op` in bits 3:0 (30_encoding.md R80). -/
def hasOp (op : Half) (cmd : Half) : Bool := cmd &&& 0x000F == op

/-- First check: OP is not reserved (0x0 and 0xA to 0xF are). -/
def opAssigned (cmd : Half) : Bool :=
  !(hasOp 0x0 cmd || hasOp 0xA cmd || hasOp 0xB cmd || hasOp 0xC cmd || hasOp 0xD cmd || hasOp 0xE cmd
    || hasOp 0xF cmd)
/-- Second check: RSV, bits 7:5, is 0. -/
def rsvZero (cmd : Half) : Bool := cmd &&& 0x00E0 == 0
/-- Third check: F (bit 4) is 0 but on OP 0x5, and IMM8 (bits 15:8) is 0 but on OP 0x6 and 0x9, the only
commands that use them (30_encoding.md R80). -/
def unusedZero (cmd : Half) : Bool :=
  (hasOp 0x5 cmd || cmd &&& 0x0010 == 0) && (hasOp 0x6 cmd || hasOp 0x9 cmd || cmd &&& 0xFF00 == 0)

/-- A command word that falls in none of the three groups of illegal words (30_encoding.md R84). -/
def wellFormedCmd (cmd : Half) : Bool := opAssigned cmd && rsvZero cmd && unusedZero cmd

/-- One row of the match and mask form of the opcode map (30_encoding.md R83). -/
structure OpcodeRow where
  mnemonic : String
  pattern  : Half
  mask     : Half
deriving DecidableEq, Repr

/-- The opcode map in match and mask form (30_encoding.md R83). -/
def opcodeTable : List OpcodeRow :=
  [ ⟨"BEGIN", 0x0001, 0xFFFF⟩, ⟨"READ", 0x0002, 0xFFFF⟩, ⟨"SETALARMS", 0x0003, 0xFFFF⟩,
    ⟨"DISALARMS", 0x0004, 0xFFFF⟩, ⟨"SDON", 0x0005, 0xFFFF⟩, ⟨"SDOFF", 0x0015, 0xFFFF⟩,
    ⟨"SETRES", 0x0006, 0x00FF⟩, ⟨"DECODE", 0x0007, 0xFFFF⟩, ⟨"ENCTHR", 0x0008, 0xFFFF⟩,
    ⟨"ENCRES", 0x0009, 0x00FF⟩ ]

/-- `(CMD & mask) == match` for this row (30_encoding.md R84). -/
def OpcodeRow.covers (r : OpcodeRow) (cmd : Half) : Bool := cmd &&& r.mask == r.pattern

/-- "A command word is *valid* exactly when `(CMD & mask) == match` for one row" (30_encoding.md R84). -/
def validCmd (cmd : Half) : Bool := opcodeTable.any (·.covers cmd)

end Sys2Proof
end

