-- ==== Sys2Proof/Decode.lean ====
section
/-! DEFINITION. The decoder and the encoder of command packets (30_encoding.md rules R80 to R84, R86). -/

namespace Sys2Proof

/-- `OP`, CMD[3:0] (30_encoding.md R80). -/
def opField (cmd : Half) : BitVec 4 := cmd.extractLsb' 0 4
/-- `F`, CMD[4] (30_encoding.md R80). -/
def fField (cmd : Half) : BitVec 1 := cmd.extractLsb' 4 1
/-- `RSV`, CMD[7:5] (30_encoding.md R80). -/
def rsvField (cmd : Half) : BitVec 3 := cmd.extractLsb' 5 3
/-- `IMM8`, CMD[15:8] (30_encoding.md R80). -/
def imm8Field (cmd : Half) : BitVec 8 := cmd.extractLsb' 8 8

/-- `F` is 0. -/
def noF (cmd : Half) : Bool := fField cmd == 0
/-- `IMM8` is 0. -/
def noImm8 (cmd : Half) : Bool := imm8Field cmd == 0

/-- The command a packet stands for, or `none` for an illegal command word (30_encoding.md R83, R84).
"Decoding depends on `CMD` alone" (R81); `A` and `B` only supply operands (R82). -/
def decode (p : Packet) : Option Instr :=
  if rsvField p.cmd ≠ 0 then none
  else
    match (opField p.cmd).toNat with
    | 1 => if noF p.cmd && noImm8 p.cmd then some .begin else none
    | 2 => if noF p.cmd && noImm8 p.cmd then some .read else none
    | 3 => if noF p.cmd && noImm8 p.cmd then some (.setAlarms p.a p.b) else none
    | 4 => if noF p.cmd && noImm8 p.cmd then some .disAlarms else none
    | 5 => if noImm8 p.cmd then some (if noF p.cmd then .sdOn else .sdOff) else none
    | 6 => if noF p.cmd then some (.setRes (imm8Field p.cmd)) else none
    | 7 => if noF p.cmd && noImm8 p.cmd then some (.decode (p.a.extractLsb' 0 16)) else none
    | 8 => if noF p.cmd && noImm8 p.cmd then some (.encThr p.a) else none
    | 9 => if noF p.cmd then some (.encRes (imm8Field p.cmd)) else none
    | _ => none

/-- `CMD` laid out from its fields (30_encoding.md R80). -/
def cmdWord (op : BitVec 4) (f : BitVec 1) (imm8 : BitVec 8) : Half :=
  imm8 ++ (0 : BitVec 3) ++ f ++ op

/-- A packet that names no operand: `A` and `B` are 0 (30_encoding.md R86). -/
def Packet.ofCmd (cmd : Half) : Packet := { cmd := cmd, a := 0, b := 0 }

/-- The packet of a command: its CMD word "with `A` and `B` set as rule R82 names and every operand the
command does not name set to 0" (30_encoding.md R86). -/
def encode : Instr → Packet
  | .begin => .ofCmd (cmdWord 1 0 0)
  | .read => .ofCmd (cmdWord 2 0 0)
  | .setAlarms lower upper => { cmd := cmdWord 3 0 0, a := lower, b := upper }
  | .disAlarms => .ofCmd (cmdWord 4 0 0)
  | .sdOn => .ofCmd (cmdWord 5 0 0)
  | .sdOff => .ofCmd (cmdWord 5 1 0)
  | .setRes code => .ofCmd (cmdWord 6 0 code)
  | .decode raw => { cmd := cmdWord 7 0 0, a := raw.setWidth 32, b := 0 }
  | .encThr value => { cmd := cmdWord 8 0 0, a := value, b := 0 }
  | .encRes code => .ofCmd (cmdWord 9 0 code)

/-- An instruction of the opcode table as one number (log 17): bits 15:0 are CMD, bits 47:16 are A
and bits 79:48 are B. -/
def Packet.ofBits (w : Nat) : Packet :=
  { cmd := BitVec.ofNat 16 w, a := BitVec.ofNat 32 (w >>> 16), b := BitVec.ofNat 32 (w >>> 48) }

/-- The first `nbits` bits of an instruction of the opcode table, every bit above them 0 (log 17). -/
def tablePacket (nbits w : Nat) : Packet := Packet.ofBits (w % 2 ^ nbits)

/-- The instruction the decoder reads from an instruction's bits as the opcode table numbers them. -/
def decodeTableWord (nbits w : Nat) : Option Instr := decode (tablePacket nbits w)

end Sys2Proof
end

