-- ==== Sys2Proof/Machine/State.lean ====
section
/-! DEFINITION. What the TCFM holds (10_state.md rule R25), what stands on its ports, and how it stops. -/

namespace Sys2Proof.Machine

open Sys2Proof

/-- Why the machine stops with a fault. The spec's own errors are statuses of a response, not faults
(60_exceptions.md R170 to R174). -/
inductive Fault where
  /-- A meaning was asked to perform a step that its command's step list does not have (SEQ is IDLE, or
  BUSY(k) with k outside the list). Raised by every meaning; no state with `LegalSeq` reaches it. Safe
  (log 16). -/
  | noSuchStep
deriving DecidableEq, Repr

/-- Why the model has no meaning for an instruction. -/
inductive Refusal where
  /-- The instruction has no meaning yet. Raised by no arm of `exec`: every instruction is modelled.
  Safe. -/
  | notModelled (mnemonic : String)
deriving DecidableEq, Repr

/-- The sequencer `SEQ`: IDLE, or BUSY(k) with `k` the index of the next step of the current command,
counted from 1 (10_state.md R27). -/
inductive Seq where
  | idle
  | busy (k : Nat)
deriving DecidableEq, Repr

/-- What crossed a port (the model's record, log 10). -/
inductive Event where
  /-- TCFM accepted a packet (10_state.md R21). -/
  | accept (p : Packet)
  /-- TCFM put a request on the transport port (10_state.md R23). -/
  | request (r : Request)
  /-- The transport answered the request standing on the port (10_state.md R23). -/
  | answer (a : Answer)
  /-- TCFM gave a response (10_state.md R22). -/
  | response (r : Response)
  /-- A reset was asserted (70_reset_and_hazards.md R190). -/
  | reset
deriving DecidableEq, Repr

/-- The machine's state: the seven elements of 10_state.md rule R25, what stands on its ports, and the
model's own fields `trace`, `script` and `time`. -/
structure State where
  /-- `ADDR_SEL`, the low 3 bits of the device address (R25). -/
  addrSel : BitVec 3
  /-- `RES`, the stored resolution code (R25). -/
  res     : BitVec 2
  /-- `DET`: false is Unverified, true is Ready (R25, R29). -/
  det     : Bool
  /-- `SEQ`, the sequencer (R25, R27). -/
  seq     : Seq
  /-- `CUR`, the latched command packet (R25). -/
  cur     : Packet
  /-- `CFGTMP`, the CONFIG value read by a read-modify-write command (R25, R28). -/
  cfgTmp  : Half
  /-- `RDTMP`, the data of the last register read of the current command (R25). -/
  rdTmp   : Half
  /-- The packets offered and not yet accepted, the one at the command port first (R21, log 6). -/
  offers  : List Packet
  /-- The request standing on the transport port without an answer (R23, log 5). -/
  port    : Option Request
  /-- What crossed the ports so far, newest first (log 10). No step reads it. -/
  trace   : List Event
  /-- The input pins of the coming steps, as far as they are laid down (log 1). -/
  script  : List Pins
  /-- How many steps were taken: it numbers the free values (logs 1, 9). -/
  time    : Nat
deriving DecidableEq, Repr

/-- TCFM right after the document's `construct(address_selector, initial_resolution)`, that is, after
a reset with these configuration inputs (70_reset_and_hazards.md R190). CUR, CFGTMP and RDTMP, which
R190 leaves unspecified, are 0 here (log 8). -/
def State.construct (addrSel : BitVec 3) (res : BitVec 2) : State where
  addrSel := addrSel
  res := res
  det := false
  seq := .idle
  cur := { cmd := 0, a := 0, b := 0 }
  cfgTmp := 0
  rdTmp := 0
  offers := []
  port := none
  trace := []
  script := []
  time := 0

/-- The state after reset, for configuration inputs 0 and 0 (log 7). -/
def State.reset : State := State.construct 0 0

end Sys2Proof.Machine
end

