-- ==== Sys2Proof/Machine/Flags.lean ====
section
/-! DEFINITION. The flags of the sensor's CONFIG register and the four operations of the configuration
flag manipulator (20_memory.md R62, 41_driver.md R140, R145, R150, R155). TCFM has no condition codes of
its own (10_state.md R30). -/

namespace Sys2Proof.Machine

open Sys2Proof

/-- CONFIG bit 3, alert enable (20_memory.md R62). -/
def alertEnabled (cfg : Half) : Bool := cfg.getLsbD 3
/-- CONFIG bit 8, shutdown: set means the sensor is OFF (20_memory.md R62). -/
def shutDown (cfg : Half) : Bool := cfg.getLsbD 8

/-- Alert-enable set, by OR (41_driver.md R140). -/
def setAlertEnable (cfg : Half) : Half := cfg ||| Config.cfgAlertEn
/-- Alert-enable "clear" by XOR, which sets a bit that was clear (41_driver.md R145). -/
def toggleAlertEnable (cfg : Half) : Half := cfg ^^^ Config.cfgAlertEn
/-- Shutdown set, by OR (41_driver.md R155, 90_conflicts.md C3). -/
def setShutdown (cfg : Half) : Half := cfg ||| Config.cfgShdn
/-- Shutdown "clear" by XOR, which sets a bit that was clear (41_driver.md R150). -/
def toggleShutdown (cfg : Half) : Half := cfg ^^^ Config.cfgShdn

end Sys2Proof.Machine
end

