-- ==== Sys2Proof/Machine/Operands.lean ====
section
/-! DEFINITION. The register codec: binary32 words, the temperature decoder, the threshold encoder and
the resolution encoder (40_codec.md). -/

namespace Sys2Proof.Machine

open Sys2Proof

/-! ### binary32 words (40_codec.md R100) -/

/-- `s = w[31]`. -/
def signBit (w : Word) : Bool := w.getLsbD 31
/-- `e = w[30:23]`. -/
def expField (w : Word) : BitVec 8 := w.extractLsb' 23 8
/-- `f = w[22:0]`. -/
def fracField (w : Word) : BitVec 23 := w.extractLsb' 0 23

/-- "`finite(w)` holds exactly when `e != 0xFF`" (40_codec.md R100). -/
def finite (w : Word) : Bool := expField w != 0xFF
/-- `w` is NaN (40_codec.md R100). -/
def isNaN (w : Word) : Bool := expField w == 0xFF && fracField w != 0
/-- `w` is infinite (40_codec.md R100). -/
def isInf (w : Word) : Bool := expField w == 0xFF && fracField w == 0

/-- `val(w)` of a finite word as the exact rational of 40_codec.md R100. -/
def val (w : Word) : ℚ :=
  (if signBit w then -1 else 1) *
    (if expField w = 0 then ((fracField w).toNat : ℚ) * (2 : ℚ) ^ (-149 : Int)
     else ((2 ^ 23 + (fracField w).toNat : Nat) : ℚ) * (2 : ℚ) ^ (((expField w).toNat : Int) - 150))

/-- The magnitude of a finite word in units of 2^-149, in which every finite word is whole. -/
def magUnits (w : Word) : Nat :=
  if expField w = 0 then (fracField w).toNat
  else (2 ^ 23 + (fracField w).toNat) * 2 ^ ((expField w).toNat - 1)

/-- `val(w)` of a finite word in units of 2^-149: the form of `val` that the encoder computes with. -/
def valUnits (w : Word) : Int :=
  if signBit w then -(magUnits w : Int) else (magUnits w : Int)

/-- `bin32(k/16)`, the binary32 word that holds `k/16` exactly, for `-4096 <= k <= 4095`
(40_codec.md R101). -/
def bin32 (k : Int) : Word :=
  if k = 0 then 0
  else
    let sgn : BitVec 1 := if k < 0 then 1 else 0
    let m := k.natAbs
    let p := Nat.log2 m
    sgn ++ BitVec.ofNat 8 (p + 123) ++ BitVec.ofNat 23 (m <<< (23 - p) - 2 ^ 23)

/-! ### Temperature decoder (40_codec.md R102 to R104) -/

/-- `decodeTemperature(raw)` in units of 1/16 °C, by the document's formula: the masked magnitude,
less 256 °C when bit 12 is set (40_codec.md R102). -/
def decodeTemperature (raw : Half) : Int :=
  let t : Int := (raw &&& Config.tempMagMask).toNat
  if raw &&& Config.tempSign ≠ 0 then t - 4096 else t

/-! ### Threshold encoder (40_codec.md R110 to R114) -/

/-- `x` rounded to `p` significant bits, ties to even. -/
def roundSignificant (p : Nat) (x : Int) : Int :=
  let m := x.natAbs
  let drop := Nat.log2 m + 1 - p
  let q := m / 2 ^ drop
  let r := m % 2 ^ drop
  let q' := if 2 * r > 2 ^ drop ∨ (2 * r = 2 ^ drop ∧ q % 2 = 1) then q + 1 else q
  x.sign * (q' * 2 ^ drop : Nat)

/-- The rounding of the intermediate `value + 256.0` under each `ENC_ROUND`
(93_implementation_defined.md I3, log 14). -/
def roundSum : Config.EncRound → Int → Int
  | .exact => id
  | .binary32 => roundSignificant 24
  | .binary64 => roundSignificant 53

/-- The threshold encoder under a choice of `ENC_ROUND`, on a finite word (40_codec.md R110): in units of
2^-149, 256 is 2^157 and `trunc(16 * x)` is division by 2^145 rounded toward zero. -/
def encodeThresholdWith (round : Config.EncRound) (w : Word) : Half :=
  let v := valUnits w
  let x := if v < 0 then roundSum round (v + 2 ^ 157) else v
  let sgn : Half := if v < 0 then Config.tempSign else 0
  let n := x.tdiv (2 ^ 145)
  BitVec.ofInt 16 (n % 8192) ||| sgn

/-- `encodeAlarmThreshold(w)` (40_codec.md R110), with TCFM's `ENC_ROUND`, which is exact. -/
def encodeAlarmThreshold (w : Word) : Half := encodeThresholdWith Config.encRound w

/-! ### Resolution encoder (40_codec.md R120, 10_state.md R32) -/

/-- `encodeResolution(code)` (40_codec.md R120). -/
def encodeResolution (code : BitVec 8) : Half :=
  (code.extractLsb' 0 2).setWidth 16 <<< Config.resShift

/-- The measurement step of a resolution code in units of 1/16 °C: 0.5, 0.25, 0.125 and 0.0625 °C in the
listed order. Informative: "no TCFM rule depends on this mapping" (10_state.md R32). -/
def resolutionStep (code : BitVec 2) : Nat := 2 ^ (3 - code.toNat)

end Sys2Proof.Machine
end

