-- ==== Sys2Proof/Machine/Ops.lean ====
section
/-! DEFINITION. The named operations of the command steps: moving the sequencer, completing a command,
and register transactions (00_scope.md R7, 20_memory.md R55 to R57, 60_exceptions.md R173, R174). -/

namespace Sys2Proof.Machine

open Sys2Proof

/-! ### Inputs and the sequencer -/

/-- The input pins in this step: what the script lays down, else a free value (log 1). -/
def State.now (s : State) : Pins :=
  match s.script with
  | p :: _ => p
  | [] => Config.freePins s.time

/-- The step is over: the next step has the next input pins (log 1). -/
def State.tick (s : State) : State := { s with script := s.script.tail, time := s.time + 1 }

/-- `SEQ <- BUSY(k)` (10_state.md R27). -/
def State.goTo (k : Nat) (s : State) : State := { s with seq := .busy k }

/-- The `det` output: "always shows the state element DET" (10_state.md R24). -/
def State.detPin (s : State) : Bool := s.det

/-- TCFM accepts packets only while its sequencer is IDLE (10_state.md R21). -/
def State.ready (s : State) : Bool := s.seq == .idle

/-- The index of a command's completion step in its step list (41_driver.md; 1 for the codec
commands, which "complete in one step", 10_state.md R27). -/
def lastStep : Instr → Nat
  | .begin => 4
  | .read => 2
  | .setAlarms _ _ => 6
  | .disAlarms => 3
  | .sdOn => 3
  | .sdOff => 3
  | .setRes _ => 2
  | .decode _ => 1
  | .encThr _ => 1
  | .encRes _ => 1

/-! ### Completing a command -/

/-- The 2-bit code of a STATUS (60_exceptions.md R170). -/
def statusCode : Status → BitVec 2
  | .ok => 0
  | .xfail => 1
  | .domain => 2
  | .illegal => 3


/-- `respond(status, result32)`: "completes the current command and returns the sequencer to IDLE"
(00_scope.md R7, 10_state.md R22). DESIGN CHOICE: CUR, CFGTMP and RDTMP, which may hold "any value" outside
a command (93_implementation_defined.md I10), keep what was last written to them (log 25). -/
def State.respond (status : Status) (result : Word) (s : State) : State :=
  { s with seq := .idle, trace := .response { status, result } :: s.trace }

/-- TAKING AN EXCEPTION: completion with an error status (60_exceptions.md R174). Saved: "nothing except
the response `{STATUS, RESULT = 0}`"; changed: `SEQ <- IDLE`; "there is no vector, handler, mode change,
mask or stack". There is no return from it: "a new packet is accepted after every completion" (R176). -/
def State.fail (status : Status) (s : State) : State := s.respond status 0

/-! ### State elements the steps write -/

/-- `DET <- d` (10_state.md R29). -/
def State.setDet (d : Bool) (s : State) : State := { s with det := d }
/-- `RES <- code` (10_state.md R31). -/
def State.setResCode (code : BitVec 2) (s : State) : State := { s with res := code }
/-- `CFGTMP <- v` (10_state.md R28). -/
def State.setCfgTmp (v : Half) (s : State) : State := { s with cfgTmp := v }
/-- `RDTMP <- v` (10_state.md R25). -/
def State.setRdTmp (v : Half) (s : State) : State := { s with rdTmp := v }

/-! ### Register transactions -/

/-- `DEVADDR = ADDR_BASE | zext_7(ADDR_SEL)` (20_memory.md R55). -/
def State.devAddr (s : State) : DevAddr := Config.addrBase ||| s.addrSel.setWidth 7

/-- The request stands on the transport port: it is put there once, and "a failed transaction is never
reissued" (20_memory.md R58, log 5). -/
def State.issue (r : Request) (s : State) : State :=
  match s.port with
  | none => { s with port := some r, trace := .request r :: s.trace }
  | some _ => s

/-- The transport's answer ends the transaction that stands on the port (10_state.md R23). -/
def State.settle (a : Answer) (s : State) : State :=
  { s with port := none, trace := .answer a :: s.trace }

/-- One register transaction: "issues one request and waits for its response. If `fail = 1`, the command
ends at once" (20_memory.md R56, R57). Without an answer the sequencer stays where it is
(70_reset_and_hazards.md R204, log 5). -/
def State.transact (r : Request) (onFail : State → State) (onOk : Half → State → State) (s : State) :
    State :=
  match s.now.answer with
  | none => s.issue r
  | some a => if a.fail then onFail ((s.issue r).settle a) else onOk a.rdata ((s.issue r).settle a)

/-- `RegRead(ptr)` (20_memory.md R57): a READ at DEVADDR, whose data goes on to `onOk`. -/
def State.regRead (ptr : Ptr) (onFail : State → State) (onOk : Half → State → State) (s : State) :
    State :=
  s.transact (.read s.devAddr ptr) onFail onOk

/-- `RegWrite(ptr, v)` (20_memory.md R56): a WRITE at DEVADDR. -/
def State.regWrite (ptr : Ptr) (v : Half) (onFail : State → State) (onOk : State → State) (s : State) :
    State :=
  s.transact (.write s.devAddr ptr v) onFail (fun _ => onOk)

/-- What "every command" does when a transaction fails (60_exceptions.md R173). -/
def State.xfail (s : State) : State := s.fail .xfail

/-! ### The read-modify-write of CONFIG -/

/-- `CFGTMP <- RegRead(0x01)`, then step `next` (41_driver.md R140, R145, R150, R155). -/
def State.readConfig (next : Nat) (s : State) : State :=
  s.regRead Config.ptrConfig State.xfail (fun d t => (t.setCfgTmp d).goTo next)

/-- `RegWrite(0x01, v)`, then step `next` (41_driver.md R140, R145, R150, R155). -/
def State.writeConfig (v : Half) (next : Nat) (s : State) : State :=
  s.regWrite Config.ptrConfig v State.xfail (State.goTo next)

/-- The three steps that DISALARMS, SDON and SDOFF share, with `modify` the operation on CONFIG
(41_driver.md R145, R150, R155). -/
def readModifyWrite (modify : Half → Half) (s : State) : Host.Outcome State Fault Refusal :=
  match s.seq with
  | .busy 1 => .next (s.readConfig 2)
  | .busy 2 => .next (s.writeConfig (modify s.cfgTmp) 3)
  | .busy 3 => .next (s.respond .ok 0)
  | _ => .fault .noSuchStep

/-- The single step of a codec command: it completes with `answer` (10_state.md R27). -/
def completeAtOnce (answer : State → State) (s : State) : Host.Outcome State Fault Refusal :=
  match s.seq with
  | .busy 1 => .next (answer s)
  | _ => .fault .noSuchStep

end Sys2Proof.Machine
end

