-- ==== Sys2Proof/Machine/Codec.lean ====
section
/-! DEFINITION. The codec commands DECODE, ENCTHR and ENCRES: one step, no transaction, no state written
(40_codec.md R105, R116, R121). -/

namespace Sys2Proof.Machine

open Sys2Proof

/-- DECODE (40_codec.md R105): `k <- sext_13(A[12:0])`, `respond(OK, bin32(k / 16))`. -/
def execDecode (raw : Half) (s : State) : Host.Outcome State Fault Refusal :=
  completeAtOnce (State.respond .ok (bin32 (raw.extractLsb' 0 13).toInt)) s

/-- ENCTHR (40_codec.md R116): DOMAIN for a NaN or an infinity, else the encoded threshold. -/
def execEncThr (value : Word) (s : State) : Host.Outcome State Fault Refusal :=
  completeAtOnce
    (fun t => if finite value then t.respond .ok ((encodeAlarmThreshold value).setWidth 32)
      else t.fail .domain) s

/-- ENCRES (40_codec.md R121): `respond(OK, zext_32(encodeResolution(IMM8)))`. -/
def execEncRes (code : BitVec 8) (s : State) : Host.Outcome State Fault Refusal :=
  completeAtOnce (State.respond .ok ((encodeResolution code).setWidth 32)) s

end Sys2Proof.Machine
end

