-- ==== Sys2Proof/Machine/Driver.lean ====
section
/-! DEFINITION. The sensor commands (41_driver.md). Each meaning performs the step of its command that
SEQ names: "each step `k` of a command is one TCFM step". -/

namespace Sys2Proof.Machine

open Sys2Proof

/-- How a BEGIN ends at a failed transaction: `DET <- 0 ; respond(XFAIL, 0)` (41_driver.md R130). -/
def beginXfail (s : State) : State := (s.setDet false).xfail

/-- BEGIN's test of the manufacturer ID, in the step that read it (41_driver.md R130, step 1). -/
def beginIdentify (id : Half) (s : State) : State :=
  let t := s.setRdTmp id
  if id = Config.mfgIdExpected then t.goTo 2 else (t.setDet false).respond .ok 0

/-- BEGIN (41_driver.md R130). -/
def execBegin (s : State) : Host.Outcome State Fault Refusal :=
  match s.seq with
  | .busy 1 => .next (s.regRead Config.ptrMfgId beginXfail beginIdentify)
  | .busy 2 => .next (s.regWrite Config.ptrResolution (encodeResolution (s.res.setWidth 8)) beginXfail
      (State.goTo 3))
  | .busy 3 => .next (s.regWrite Config.ptrConfig 0x0000 beginXfail (State.goTo 4))
  | .busy 4 => .next ((s.setDet true).respond .ok 1)
  | _ => .fault .noSuchStep

/-- READ (41_driver.md R135). -/
def execRead (s : State) : Host.Outcome State Fault Refusal :=
  match s.seq with
  | .busy 1 => .next (s.regRead Config.ptrTemperature State.xfail (fun d t => (t.setRdTmp d).goTo 2))
  | .busy 2 => .next (s.respond .ok (bin32 (decodeTemperature s.rdTmp)))
  | _ => .fault .noSuchStep

/-- SETALARMS (41_driver.md R140), with the threshold multiplexer of R141: `upper` goes to ALERT_UPPER
and CRITICAL_TEMP, `lower` to ALERT_LOWER. -/
def execSetAlarms (lower upper : Word) (s : State) : Host.Outcome State Fault Refusal :=
  match s.seq with
  | .busy 1 => .next (if finite lower && finite upper then
      s.regWrite Config.ptrAlertUpper (encodeAlarmThreshold upper) State.xfail (State.goTo 2)
      else s.fail .domain)
  | .busy 2 => .next (s.regWrite Config.ptrCritical (encodeAlarmThreshold upper) State.xfail
      (State.goTo 3))
  | .busy 3 => .next (s.regWrite Config.ptrAlertLower (encodeAlarmThreshold lower) State.xfail
      (State.goTo 4))
  | .busy 4 => .next (s.readConfig 5)
  | .busy 5 => .next (s.writeConfig (setAlertEnable s.cfgTmp) 6)
  | .busy 6 => .next (s.respond .ok 0)
  | _ => .fault .noSuchStep

/-- DISALARMS (41_driver.md R145). -/
def execDisAlarms (s : State) : Host.Outcome State Fault Refusal := readModifyWrite toggleAlertEnable s

/-- SDON (41_driver.md R150). -/
def execSdOn (s : State) : Host.Outcome State Fault Refusal := readModifyWrite toggleShutdown s

/-- SDOFF (41_driver.md R155). -/
def execSdOff (s : State) : Host.Outcome State Fault Refusal := readModifyWrite setShutdown s

/-- SETRES (41_driver.md R160): RES is stored only after the write succeeded. -/
def execSetRes (code : BitVec 8) (s : State) : Host.Outcome State Fault Refusal :=
  match s.seq with
  | .busy 1 => .next (s.regWrite Config.ptrResolution (encodeResolution code) State.xfail
      (State.goTo 2))
  | .busy 2 => .next ((s.setResCode (code.extractLsb' 0 2)).respond .ok 0)
  | _ => .fault .noSuchStep

end Sys2Proof.Machine
end

