-- ==== Sys2Proof/Machine/Dispatch.lean ====
section
/-! DEFINITION. One arm per command, each a direct call of its meaning. -/

namespace Sys2Proof.Machine

/-- The TCFM step of command `i` that SEQ names (10_state.md R27). -/
def exec (i : Instr) (s : State) : Host.Outcome State Fault Refusal :=
  match i with
  | .begin => Sys2Proof.Machine.execBegin s
  | .read => Sys2Proof.Machine.execRead s
  | .setAlarms lower upper => Sys2Proof.Machine.execSetAlarms lower upper s
  | .disAlarms => Sys2Proof.Machine.execDisAlarms s
  | .sdOn => Sys2Proof.Machine.execSdOn s
  | .sdOff => Sys2Proof.Machine.execSdOff s
  | .setRes code => Sys2Proof.Machine.execSetRes code s
  | .decode raw => Sys2Proof.Machine.execDecode raw s
  | .encThr value => Sys2Proof.Machine.execEncThr value s
  | .encRes code => Sys2Proof.Machine.execEncRes code s

end Sys2Proof.Machine
end

