-- ==== Sys2Proof/Machine/Fetch.lean ====
section
/-! DEFINITION. What a step does around a command's meaning: reset, taking the host's packet, finding the
command that runs (10_state.md R21, R27; 60_exceptions.md R171, R175; 70_reset_and_hazards.md R190, R191). -/

namespace Sys2Proof.Machine

open Sys2Proof

/-- The packet newly offered in this step stands behind those already offered: an offer is "neither taken
nor lost" until it is accepted (10_state.md R21, log 6). -/
def State.arrive (s : State) : State := { s with offers := s.offers ++ s.now.offer.toList }

/-- The reset input is asserted (70_reset_and_hazards.md R190): a command under way is abandoned without a
response (R191), and CUR, CFGTMP and RDTMP are unspecified, so they take free values (log 9). -/
def State.resetBy (addrSel : BitVec 3) (res : BitVec 2) (s : State) : State :=
  { s with
    addrSel := addrSel
    res := res
    det := false
    seq := .idle
    cur := Config.freeCur s.time
    cfgTmp := Config.freeCfgTmp s.time
    rdTmp := Config.freeRdTmp s.time
    port := none
    trace := .reset :: s.trace }

/-- TCFM takes packet `p`, with `rest` left on offer: `CUR <- p`, and the command's next step is its
first (10_state.md R21, R25, R27). -/
def State.accept (p : Packet) (rest : List Packet) (s : State) : State :=
  { s with cur := p, seq := .busy 1, offers := rest, trace := .accept p :: s.trace }

/-- The command latched in CUR and the state it runs in; an illegal command word "completes in one step
with `respond(ILLEGAL, 0)`" (60_exceptions.md R171), before any other test (R175). -/
def State.latched (s : State) : State × Option Instr :=
  match decode s.cur with
  | none => (s.fail .illegal, none)
  | some i => (s, some i)

/-- What this step is: a reset, nothing (IDLE and no offer), an illegal command's completion, or a step of
a command. A packet is taken in the same step as its command's first step (log 3), only while IDLE
(10_state.md R21); a reset comes before all else (log 22). -/
def State.fetch (s : State) : State × Option Instr :=
  let t := s.arrive
  if s.now.rst then (t.resetBy s.now.cfgAddrSel s.now.cfgRes, none)
  else
    match t.seq with
    | .busy _ => t.latched
    | .idle =>
      match t.offers with
      | [] => (t, none)
      | p :: rest => (t.accept p rest).latched

/-- The outcome of a meaning, with the step's inputs used up. -/
def endStep : Host.Outcome State Fault Refusal → Host.Outcome State Fault Refusal
  | .next s => .next s.tick
  | .fault r => .fault r
  | .refused r => .refused r

/-- What it takes for the very next step to take packet `p` (log 2): TCFM is IDLE, `p` is at the command
port, and the next step's pins are quiet (no reset, no answer). -/
def State.offerNext (p : Packet) (s : State) : State :=
  { s with seq := .idle, port := none, offers := p :: s.offers, script := .quiet :: s.script }

end Sys2Proof.Machine
end

