-- ==== Sys2Proof/Machine/Step.lean ====
section
/-! DEFINITION. One step of the machine (10_state.md R20, R27). -/

namespace Sys2Proof.Machine

open Sys2Proof

/-- One TCFM step. -/
def step (s : State) : Host.Outcome State Fault Refusal :=
  match s.fetch with
  | (t, some i) => endStep (exec i t)
  | (t, none) => endStep (.next t)

/-- `s` with an instruction of the opcode table offered, so that the very next step takes and runs it
(logs 2, 17). -/
def State.withFetchWord (s : State) (nbits w : Nat) : State := s.offerNext (tablePacket nbits w)

end Sys2Proof.Machine
end

