-- ==== Sys2Proof/Machine/Assembler.lean ====
section
/-! DEFINITION. The spec's assembler lines as data: literals, commands and pseudo-commands
(30_encoding.md rules R86, R87). -/

namespace Sys2Proof.Machine

open Sys2Proof

/-- A binary32 literal: a bit pattern, or a decimal number `±digits / 10^scale` (30_encoding.md R86). -/
inductive Literal where
  | bits (w : Word)
  | decimal (negative : Bool) (digits scale : Nat)
deriving DecidableEq, Repr

/-- The bit pattern, without its sign bit, of the binary32 number nearest to `a / b`, ties to even; a
number past the largest finite one gives the infinity (log 19). With `u` the number in units of 2^-149,
its leading 24 bits (fewer below 2^24) are kept and the rest is rounded. -/
def nearestMagnitude (a b : Nat) : Nat :=
  let u := a * 2 ^ 149 / b
  let drop := Nat.log2 u + 1 - 24
  let d := b * 2 ^ drop
  let q := a * 2 ^ 149 / d
  let r := a * 2 ^ 149 % d
  let q' := if 2 * r > d ∨ (2 * r = d ∧ q % 2 = 1) then q + 1 else q
  min (drop * 2 ^ 23 + q') 0x7F800000

/-- The word a literal stands for: "the binary32 word nearest to it, with ties to even. A `0x` literal of
8 hex digits is the bit pattern itself" (30_encoding.md R86). DESIGN CHOICE: a negative number other than 0
that rounds to zero gives -0.0, the zero of its own sign; both zero words are as near (log 26). -/
def Literal.word : Literal → Word
  | .bits w => w
  | .decimal negative digits scale =>
    (if negative then 0x80000000 else 0) ||| BitVec.ofNat 32 (nearestMagnitude digits (10 ^ scale))

/-- An assembler line: a command (30_encoding.md R86) or a pseudo-command (R87). -/
inductive Line where
  | begin
  | read
  | setAlarms (lower upper : Literal)
  | disAlarms
  | sdOn
  | sdOff
  | setRes (imm8 : BitVec 8)
  | decode (raw16 : Half)
  | encThr (value : Literal)
  | encRes (imm8 : BitVec 8)
  /-- `ENCTEMP <value>`. -/
  | encTemp (value : Literal)
  /-- `SHUTDOWN OFF`. -/
  | shutdownOff
  /-- `SHUTDOWN ON`. -/
  | shutdownOn
  /-- `SETRESOLUTION #c`. -/
  | setResolution (c : BitVec 8)
deriving DecidableEq, Repr

/-- The command a line stands for; "each [pseudo-command] expands to exactly one command"
(30_encoding.md R87). -/
def Line.instr : Line → Instr
  | .begin => .begin
  | .read => .read
  | .setAlarms lower upper => .setAlarms lower.word upper.word
  | .disAlarms => .disAlarms
  | .sdOn => .sdOn
  | .sdOff => .sdOff
  | .setRes imm8 => .setRes imm8
  | .decode raw16 => .decode raw16
  | .encThr value => .encThr value.word
  | .encRes imm8 => .encRes imm8
  | .encTemp value => .encThr value.word
  | .shutdownOff => .sdOff
  | .shutdownOn => .sdOn
  | .setResolution c => .setRes c

/-- "The encoding of a line" (30_encoding.md R86). -/
def Line.packet (l : Line) : Packet := encode l.instr

end Sys2Proof.Machine
end

