-- ==== Sys2Proof/Machine/Sensor.lean ====
section
/-! DEFINITION. The sensor's side of the transport as far as the spec describes it: the register map
(20_memory.md R59, R61 to R67) and the byte sequence of a transaction (R52, R56, R57). TCFM's step sees
whole 16-bit transactions only (R23). -/

namespace Sys2Proof.Machine

open Sys2Proof

/-! ### Register map -/

/-- The registers of the document's map (20_memory.md R61). -/
inductive SensorReg where
  | config | alertUpper | alertLower | criticalTemp | temperature | manufacturerId | deviceId | resolution
deriving DecidableEq, Repr

/-- The pointer of a register (20_memory.md R61). -/
def SensorReg.ptr : SensorReg → Ptr
  | .config => Config.ptrConfig
  | .alertUpper => Config.ptrAlertUpper
  | .alertLower => Config.ptrAlertLower
  | .criticalTemp => Config.ptrCritical
  | .temperature => Config.ptrTemperature
  | .manufacturerId => Config.ptrMfgId
  | .deviceId => Config.ptrDeviceId
  | .resolution => Config.ptrResolution

/-- The pointers TCFM reads: CONFIG, TEMPERATURE, MANUFACTURER_ID (20_memory.md R59). -/
def readsPtr (p : Ptr) : Bool := p == 0x01 || p == 0x05 || p == 0x06

/-- The pointers TCFM writes: CONFIG, the three thresholds, RESOLUTION (20_memory.md R59). -/
def writesPtr (p : Ptr) : Bool := p == 0x01 || p == 0x02 || p == 0x03 || p == 0x04 || p == 0x08

/-- A payload that TCFM may write to a pointer: thresholds have bits 15:13 zero (20_memory.md R63),
RESOLUTION has every bit but 9:8 zero (R67). -/
def payloadShape (p : Ptr) (v : Half) : Bool :=
  if p == 0x02 || p == 0x03 || p == 0x04 then v &&& 0xE000 == 0
  else if p == 0x08 then v &&& 0xFCFF == 0
  else true

/-- A request that rules R55, R59, R63 and R67 of 20_memory.md allow TCFM to issue. -/
def requestAllowed : Request → Bool
  | .read a p => a.toNat / 8 == 3 && readsPtr p
  | .write a p v => a.toNat / 8 == 3 && writesPtr p && payloadShape p v

/-! ### Byte transport -/

/-- One call of the document's byte transport (20_memory.md R56, R57). -/
inductive ByteOp where
  | beginTransaction (addr : DevAddr)
  | write (byte : BitVec 8)
  | endTransaction
  | requestBytes (n : Nat)
  | read
deriving DecidableEq, Repr

/-- `v[15:8]`, the byte that crosses first (20_memory.md R52). -/
def highByte (v : Half) : BitVec 8 := v.extractLsb' 8 8
/-- `v[7:0]`, the byte that crosses second (20_memory.md R52). -/
def lowByte (v : Half) : BitVec 8 := v.extractLsb' 0 8

/-- The byte sequence of a request (20_memory.md R56 for a write, R57 for a read). -/
def byteSequence : Request → List ByteOp
  | .write a p v => [.beginTransaction a, .write p, .write (highByte v), .write (lowByte v),
      .endTransaction]
  | .read a p => [.beginTransaction a, .write p, .endTransaction,
      .beginTransaction a, .requestBytes 2, .read, .read]

/-- The answer to a read from its two halves: `rdata <- {hi, lo}`, and "a failure in either half is one
failure" (20_memory.md R57). -/
def readAnswer (pointerFail dataFail : Bool) (hi lo : BitVec 8) : Answer :=
  { fail := pointerFail || dataFail, rdata := hi ++ lo }

end Sys2Proof.Machine
end

