-- ==== Sys2Proof/Machine/Bench.lean ====
section
/-! DEFINITION. The reference sensor of 95_test_vectors.md, and a TCFM with that sensor on its transport.
"It is not a claim about the sensor" (20_memory.md R60): no part of the machine uses this file. -/

namespace Sys2Proof.Machine

open Sys2Proof

/-- The reference sensor's registers and scripts (95_test_vectors.md). -/
structure RefSensor where
  config     : Half
  alertUpper : Half
  alertLower : Half
  critical   : Half
  resolution : Half
  /-- What successive reads of TEMPERATURE return. -/
  temps      : List Half
  /-- What every read of MANUFACTURER_ID returns. -/
  mfgId      : Half
  /-- For the coming transactions, which are marked FAIL; past its end none is. -/
  fails      : List Bool
deriving DecidableEq, Repr

/-- A read: the last value stored, or the scripts' next. A pointer the reference sensor does not hold, or
an exhausted temperature list, gives no answer (log 20). -/
def RefSensor.readReg (c : RefSensor) (p : Ptr) : Option (Half × RefSensor) :=
  if p = Config.ptrConfig then some (c.config, c)
  else if p = Config.ptrAlertUpper then some (c.alertUpper, c)
  else if p = Config.ptrAlertLower then some (c.alertLower, c)
  else if p = Config.ptrCritical then some (c.critical, c)
  else if p = Config.ptrResolution then some (c.resolution, c)
  else if p = Config.ptrMfgId then some (c.mfgId, c)
  else if p = Config.ptrTemperature then
    match c.temps with
    | [] => none
    | t :: rest => some (t, { c with temps := rest })
  else none

/-- A write stores its value. -/
def RefSensor.writeReg (c : RefSensor) (p : Ptr) (v : Half) : Option RefSensor :=
  if p = Config.ptrConfig then some { c with config := v }
  else if p = Config.ptrAlertUpper then some { c with alertUpper := v }
  else if p = Config.ptrAlertLower then some { c with alertLower := v }
  else if p = Config.ptrCritical then some { c with critical := v }
  else if p = Config.ptrResolution then some { c with resolution := v }
  else none

/-- The answer to one request and the sensor after it. A transaction marked FAIL changes no register; 95_test_vectors.md
says so of a failed write. The rest is the model's choice (log 20, DESIGN CHOICE): a failed read, one of TEMPERATURE among
them, uses up no value of the scripted list; every answered transaction uses up one mark of `fails`; `rdata` is 0 where
it means nothing (a write, a failure); and a transaction marked FAIL answers so even at a pointer that the sensor does
not hold. -/
def RefSensor.respond (c : RefSensor) (r : Request) : Option (Answer × RefSensor) :=
  let c' := { c with fails := c.fails.tail }
  if c.fails.headD false then some ({ fail := true, rdata := 0 }, c')
  else
    match r with
    | .read _ p => (c'.readReg p).map fun x => ({ fail := false, rdata := x.1 }, x.2)
    | .write _ p v => (c'.writeReg p v).map fun x => ({ fail := false, rdata := 0 }, x)

/-- A TCFM and the reference sensor. -/
structure Bench where
  tcfm   : State
  sensor : RefSensor
deriving DecidableEq, Repr

/-- One step of the bench: no reset and no new packet; the sensor answers the request that stands on the
port. -/
def Bench.step (b : Bench) : Bench :=
  let reply := b.tcfm.port.bind b.sensor.respond
  let pins := { Pins.quiet with answer := reply.map Prod.fst }
  let sensor := (reply.map Prod.snd).getD b.sensor
  match Sys2Proof.Machine.step { b.tcfm with script := [pins] } with
  | .next s => { tcfm := s, sensor := sensor }
  | .fault _ => b
  | .refused _ => b

/-- The bench after `n` steps. -/
def Bench.run : Nat → Bench → Bench
  | 0, b => b
  | n + 1, b => Bench.run n b.step

/-- The bench after packet `p` is offered and `n` steps are taken. -/
def Bench.issue (p : Packet) (n : Nat) (b : Bench) : Bench :=
  Bench.run n { b with tcfm := { b.tcfm with offers := [p] } }

end Sys2Proof.Machine
end

