-- ==== Sys2Proof/Safety.lean ====
section
/-! DEFINITION. What counts as a safe run of the TCFM, in the terms the claims use: the legal sequencer
states, the orderly record of what crossed the ports, and the vocabulary of the statements. -/

namespace Sys2Proof.Machine

open Sys2Proof

/-! ### The step lists of 41_driver.md, read as data -/

/-- The transaction of step `k` of command `i` in state `s` (41_driver.md R130 to R160); `none` for a
completion step and for a command without transactions. -/
def stepRequest (i : Instr) (k : Nat) (s : State) : Option Request :=
  match i with
  | .begin => match k with
    | 1 => some (.read s.devAddr 0x06)
    | 2 => some (.write s.devAddr 0x08 (encodeResolution (s.res.setWidth 8)))
    | 3 => some (.write s.devAddr 0x01 0x0000)
    | _ => none
  | .read => match k with
    | 1 => some (.read s.devAddr 0x05)
    | _ => none
  | .setAlarms lower upper => match k with
    | 1 => some (.write s.devAddr 0x02 (encodeAlarmThreshold upper))
    | 2 => some (.write s.devAddr 0x04 (encodeAlarmThreshold upper))
    | 3 => some (.write s.devAddr 0x03 (encodeAlarmThreshold lower))
    | 4 => some (.read s.devAddr 0x01)
    | 5 => some (.write s.devAddr 0x01 (s.cfgTmp ||| 0x0008))
    | _ => none
  | .disAlarms => match k with
    | 1 => some (.read s.devAddr 0x01)
    | 2 => some (.write s.devAddr 0x01 (s.cfgTmp ^^^ 0x0008))
    | _ => none
  | .sdOn => match k with
    | 1 => some (.read s.devAddr 0x01)
    | 2 => some (.write s.devAddr 0x01 (s.cfgTmp ^^^ 0x0100))
    | _ => none
  | .sdOff => match k with
    | 1 => some (.read s.devAddr 0x01)
    | 2 => some (.write s.devAddr 0x01 (s.cfgTmp ||| 0x0100))
    | _ => none
  | .setRes code => match k with
    | 1 => some (.write s.devAddr 0x08 (encodeResolution code))
    | _ => none
  | .decode _ => none
  | .encThr _ => none
  | .encRes _ => none

/-- Every binary32 operand that SETALARMS or ENCTHR must encode is finite: the command does not end with
DOMAIN (60_exceptions.md R172). -/
def operandsFinite : Instr → Bool
  | .begin => true
  | .read => true
  | .setAlarms lower upper => finite lower && finite upper
  | .disAlarms => true
  | .sdOn => true
  | .sdOff => true
  | .setRes _ => true
  | .decode _ => true
  | .encThr value => finite value
  | .encRes _ => true

/-- The number of transactions of a command that meets no error (70_reset_and_hazards.md R203), with
`id` what the manufacturer ID reads as. -/
def transactionCount (id : Half) : Instr → Nat
  | .begin => if id = 0x0054 then 3 else 1
  | .read => 1
  | .setAlarms _ _ => 5
  | .disAlarms => 2
  | .sdOn => 2
  | .sdOff => 2
  | .setRes _ => 1
  | .decode _ => 0
  | .encThr _ => 0
  | .encRes _ => 0

/-! ### Legal states between two steps -/

/-- What a state between two steps looks like while command `i` stands at step `k`: `k` is a step of the
command's list, its operands passed the DOMAIN test, and a request on the port is that of step `k`. Since a
packet is taken in the same step as its first step, a command at step 1 waits for its first answer. -/
def LegalBusy (i : Instr) (k : Nat) (s : State) : Prop :=
  1 ≤ k ∧ k ≤ lastStep i ∧ operandsFinite i = true ∧
    (s.port = stepRequest i k s ∨ (s.port = none ∧ 2 ≤ k)) ∧ (k = 1 → s.port ≠ none)

/-- The legal states of SEQ, CUR and the transport port (10_state.md R27). -/
def LegalSeq (s : State) : Prop :=
  match s.seq with
  | .idle => s.port = none
  | .busy k => ∃ i, decode s.cur = some i ∧ LegalBusy i k s

/-! ### The record of what crossed the ports (newest event first) -/

/-- A command was accepted and neither answered with a response nor abandoned by a reset. -/
def openCommand : List Event → Bool
  | [] => false
  | .accept _ :: _ => true
  | .response _ :: _ => false
  | .reset :: _ => false
  | .request _ :: t => openCommand t
  | .answer _ :: t => openCommand t

/-- The request that has no answer yet. -/
def openRequest : List Event → Option Request
  | [] => none
  | .request r :: _ => some r
  | .answer _ :: _ => none
  | .reset :: _ => none
  | .accept _ :: t => openRequest t
  | .response _ :: t => openRequest t

/-- The newest event is a failed transaction's answer. -/
def justFailed : List Event → Bool
  | .answer a :: _ => a.fail
  | _ => false

/-- An event may follow the events `t`:
a packet is accepted only while no command is open (10_state.md R21);
a request is issued only by an open command, only after the previous answer (R23), and never after a
failure (20_memory.md R58, 60_exceptions.md R173);
an answer belongs to a request;
a response ends an open command with no request open, is XFAIL exactly after a failed transaction
(60_exceptions.md R170, R173), and has RESULT 0 unless OK (10_state.md R22). -/
def mayFollow (t : List Event) : Event → Bool
  | .accept _ => !openCommand t
  | .request _ => openCommand t && (openRequest t).isNone && !justFailed t
  | .answer _ => openCommand t && (openRequest t).isSome
  | .response r => openCommand t && (openRequest t).isNone && ((r.status == .xfail) == justFailed t)
      && (r.status == .ok || r.result == 0)
  | .reset => true

/-- Every event of the record may follow those before it. -/
def Orderly : List Event → Prop
  | [] => True
  | e :: t => mayFollow t e = true ∧ Orderly t

/-- The record is orderly and tells SEQ and the transport port. -/
def RecordAgrees (s : State) : Prop :=
  Orderly s.trace ∧ openCommand s.trace = (s.seq != .idle) ∧ openRequest s.trace = s.port ∧
    (s.seq ≠ .idle → justFailed s.trace = false)

/-- A request that 20_memory.md lets TCFM issue stands in every request event of the record. -/
def OnlyAllowed (l : List Event) : Prop := ∀ r, Event.request r ∈ l → requestAllowed r = true

/-- The open command's newest answered transaction: its request, and the data of its answer. -/
def latestAnswered : List Event → Option (Request × Half)
  | .answer a :: t => (openRequest t).map fun r => (r, a.rdata)
  | .request _ :: t => latestAnswered t
  | _ => none

/-- Step `k` of command `i` is the write-back of a read-modify-write of CONFIG. -/
def writesBack (i : Instr) (k : Nat) : Bool :=
  match i with
  | .begin => false
  | .read => false
  | .setAlarms _ _ => k == 5
  | .disAlarms => k == 2
  | .sdOn => k == 2
  | .sdOff => k == 2
  | .setRes _ => false
  | .decode _ => false
  | .encThr _ => false
  | .encRes _ => false

/-- Between the read of CONFIG and the write back "`CFGTMP` holds the value read" (10_state.md R28), and
RDTMP holds the TEMPERATURE reading that READ is about to decode (41_driver.md R135): each is the data of the
newest answered transaction, which was the read of 0x01, or of 0x05, at TCFM's device address. -/
def LatchesHoldData (s : State) : Prop :=
  ∀ k i, s.seq = .busy k → decode s.cur = some i →
    (writesBack i k = true → latestAnswered s.trace = some (.read s.devAddr 0x01, s.cfgTmp)) ∧
    (i = .read → k = 2 → latestAnswered s.trace = some (.read s.devAddr 0x05, s.rdTmp))

/-- The invariant of every run. -/
def Inv (s : State) : Prop :=
  LegalSeq s ∧ RecordAgrees s ∧ OnlyAllowed s.trace ∧ LatchesHoldData s

/-! ### Vocabulary of the statements -/

/-- The state when the transaction `r` of a step has been answered with `a`: nothing stands on the port, and
the record has the request (once, whether it was issued in this step or waited) and its answer. -/
def afterTransaction (r : Request) (a : Answer) (s : State) : State :=
  { s with
    port := none
    trace := .answer a :: (if s.port = none then .request r :: s.trace else s.trace) }

/-- Nothing stands on the port but possibly the request `r` of the step that SEQ names. -/
def portFor (r : Request) (s : State) : Prop := s.port = none ∨ s.port = some r

/-- The pins of a step in which the transport answers `a` and nothing else happens. -/
def answering (a : Answer) : Pins := { Pins.quiet with answer := some a }

/-- An answer of a transaction that did not fail. -/
def good (d : Half) : Answer := { fail := false, rdata := d }

/-- How many requests a list of events has. -/
def requestCount (l : List Event) : Nat :=
  l.countP fun e => match e with
    | .request _ => true
    | _ => false

/-- A bench between two commands, with a sensor that fails no transaction. -/
def quietBench (b : Bench) : Prop :=
  b.tcfm.seq = .idle ∧ b.tcfm.port = none ∧ b.tcfm.offers = [] ∧ b.sensor.fails = []

/-- The two states agree on all that TCFM shows or will show, CUR, CFGTMP and RDTMP apart. -/
def sameButLatches (s t : State) : Prop :=
  ({ s with cur := t.cur, cfgTmp := t.cfgTmp, rdTmp := t.rdTmp } : State) = t

/-- Two outcomes of the same kind: the same reason to stop, or next states with `same`. -/
def outcomesAgree (same : State → State → Prop) : Host.Outcome State Fault Refusal →
    Host.Outcome State Fault Refusal → Prop
  | .next s, .next t => same s t
  | .fault e, .fault f => e = f
  | .refused e, .refused f => e = f
  | _, _ => False

/-- The two states show the same on every port but `det`. -/
def showSameButDet (s t : State) : Prop :=
  s.trace = t.trace ∧ s.port = t.port ∧ s.offers = t.offers ∧ s.seq = t.seq ∧ s.res = t.res ∧
    s.addrSel = t.addrSel

/-- The list has no event of a response. -/
def NoResponse (l : List Event) : Prop := ∀ r, Event.response r ∉ l

/-- The list has no event of an accepted packet. -/
def NoAccept (l : List Event) : Prop := ∀ p, Event.accept p ∉ l

/-- How many of the steps that the script lays down have an answer of the transport. -/
def answerCount (l : List Pins) : Nat := l.countP (·.answer.isSome)

end Sys2Proof.Machine
end

