-- ==== Sys2Proof/Certificates/Slice0/Obligations.lean ====
section
/-! DEFINITION. The statements for the provers. Each docstring names the rule of spec/ it rests on, or the
log entry where a clause is the model's choice. -/

open Sys2Proof Sys2Proof.Machine

/-! ### Encoding -/

/-- Words written out from the opcode map (30_encoding.md R83) and from the command decoding vectors of
95_test_vectors.md decode as those tables say. -/
def Obligations.SpecWordsDecode : Prop :=
  ∀ a b : Word,
    Sys2Proof.decode ⟨0x0001, a, b⟩ = some .begin ∧
    Sys2Proof.decode ⟨0x0002, a, b⟩ = some .read ∧
    Sys2Proof.decode ⟨0x0003, a, b⟩ = some (.setAlarms a b) ∧
    Sys2Proof.decode ⟨0x0004, a, b⟩ = some .disAlarms ∧
    Sys2Proof.decode ⟨0x0005, a, b⟩ = some .sdOn ∧
    Sys2Proof.decode ⟨0x0015, a, b⟩ = some .sdOff ∧
    Sys2Proof.decode ⟨0xFF06, a, b⟩ = some (.setRes 0xFF) ∧
    Sys2Proof.decode ⟨0x0007, a, b⟩ = some (.decode (a.setWidth 16)) ∧
    Sys2Proof.decode ⟨0x0008, a, b⟩ = some (.encThr a) ∧
    Sys2Proof.decode ⟨0x0309, a, b⟩ = some (.encRes 3) ∧
    Sys2Proof.decode ⟨0x0000, a, b⟩ = none ∧
    Sys2Proof.decode ⟨0x000A, a, b⟩ = none ∧
    Sys2Proof.decode ⟨0x000F, a, b⟩ = none ∧
    Sys2Proof.decode ⟨0x0101, a, b⟩ = none ∧
    Sys2Proof.decode ⟨0x0011, a, b⟩ = none ∧
    Sys2Proof.decode ⟨0x0025, a, b⟩ = none ∧
    Sys2Proof.decode ⟨0x0016, a, b⟩ = none ∧
    Sys2Proof.decode ⟨0x0115, a, b⟩ = none ∧
    Sys2Proof.decode ⟨0x0087, a, b⟩ = none

/-- The three readings of a valid command word agree: the rows of R83 in match and mask form, the three groups
of illegal words of R84, and the decoder. At most one row covers a word. -/
def Obligations.ValidWordsAreTheRowsWords : Prop :=
  (∀ p : Packet, (Sys2Proof.decode p).isSome = validCmd p.cmd) ∧
  (∀ cmd : Half, validCmd cmd = wellFormedCmd cmd) ∧
  (∀ cmd : Half, ∀ r ∈ opcodeTable, ∀ q ∈ opcodeTable, r.covers cmd = true → q.covers cmd = true → r = q)

/-- Decoding and encoding agree in both directions: every command, with every operand value, is read back from
its packet, and every packet that decodes is the packet of the command it decodes to, in its command word and in
every operand bit the command names. -/
def Obligations.DecodeAndEncodeAgree : Prop :=
  (∀ i : Instr, Sys2Proof.decode (encode i) = some i) ∧
  (∀ (p : Packet) (i : Instr), Sys2Proof.decode p = some i →
    (encode i).cmd = p.cmd ∧
    (∀ lower upper, i = .setAlarms lower upper → encode i = p) ∧
    (∀ value, i = .encThr value → (encode i).a = p.a) ∧
    (∀ raw, i = .decode raw → (encode i).a.setWidth 16 = p.a.setWidth 16))

/-- Two packets with the same command word and the same named operand bits (R82) decode alike: A and B of
SETALARMS, A of ENCTHR, A[15:0] of DECODE; nothing else of A and B counts. -/
def Obligations.UnnamedOperandBitsIgnored : Prop :=
  ∀ p q : Packet, p.cmd = q.cmd →
    (p.cmd = 0x0003 → p.a = q.a ∧ p.b = q.b) →
    (p.cmd = 0x0007 → p.a.setWidth 16 = q.a.setWidth 16) →
    (p.cmd = 0x0008 → p.a = q.a) →
    Sys2Proof.decode p = Sys2Proof.decode q

/-- The pseudo-commands (R87), each expanding to exactly one command. -/
def Obligations.PseudoCommandsExpand : Prop :=
  (∀ v, (Line.encTemp v).packet = (Line.encThr v).packet) ∧
  Line.shutdownOff.packet = Line.sdOff.packet ∧
  Line.shutdownOn.packet = Line.sdOn.packet ∧
  (∀ c, (Line.setResolution c).packet = (Line.setRes c).packet)

/-! ### Codec -/

/-- `bin32(k/16)` holds k/16 exactly, has the fields that R101 writes out, and is +0.0 for 0. -/
def Obligations.Bin32HoldsSixteenthsExactly : Prop :=
  ∀ k : Int, -4096 ≤ k → k ≤ 4095 →
    finite (bin32 k) = true ∧ val (bin32 k) = (k : ℚ) / 16 ∧
    (k = 0 → bin32 k = 0x00000000) ∧
    (k ≠ 0 → ∃ p : Nat, p ≤ 12 ∧ 2 ^ p ≤ k.natAbs ∧ k.natAbs < 2 ^ (p + 1) ∧
      signBit (bin32 k) = decide (k < 0) ∧
      (expField (bin32 k)).toNat = p + 123 ∧
      (fracField (bin32 k)).toNat = k.natAbs * 2 ^ (23 - p) - 2 ^ 23)

/-- The decoder is the two's-complement reading of bits 12:0 (R103): it agrees with the document's formula
(R102), its range is every multiple of 1/16 from -256 to 255.9375, each reached by exactly one value of bits
12:0, and its results are exact in binary32 and never -0.0. -/
def Obligations.DecoderIsTwosComplement : Prop :=
  (∀ raw : Half,
    decodeTemperature raw = (raw.extractLsb' 0 13).toInt ∧
    (decodeTemperature raw : ℚ) / 16 =
      ((raw.extractLsb' 0 12).toNat : ℚ) / 16 - (if raw.getLsbD 12 then 256 else 0) ∧
    -4096 ≤ decodeTemperature raw ∧ decodeTemperature raw ≤ 4095 ∧
    val (bin32 (decodeTemperature raw)) = (decodeTemperature raw : ℚ) / 16 ∧
    bin32 (decodeTemperature raw) ≠ 0x80000000) ∧
  (∀ k : Int, -4096 ≤ k → k ≤ 4095 →
    ∃ v : BitVec 13, ∀ raw : Half, decodeTemperature raw = k ↔ raw.extractLsb' 0 13 = v)

/-- The decoder ignores bits 15:13, and what READ answers depends neither on them nor on the stored resolution
code (R104). -/
def Obligations.DecoderIgnoresUpperBitsAndResolution : Prop :=
  (∀ raw raw' : Half, raw.extractLsb' 0 13 = raw'.extractLsb' 0 13 →
    decodeTemperature raw = decodeTemperature raw' ∧
    ∀ s : State, exec (.decode raw) s = exec (.decode raw') s) ∧
  (∀ (s : State) (code : BitVec 2) (t t' : State), s.seq = .busy 2 →
    exec .read s = .next t → exec .read { s with res := code } = .next t' → t.trace = t'.trace)

/-- The threshold encoder, computed by the model in units of 2^-149, is the document's formula on rationals
(R110), with trunc rounding toward zero. -/
def Obligations.EncoderIsTheRationalFormula : Prop :=
  ∀ w : Word, finite w = true →
    ∃ (x : ℚ) (n : Int),
      x = (if val w < 0 then val w + 256 else val w) ∧
      (0 ≤ x → n = ⌊16 * x⌋) ∧ (x < 0 → n = ⌈16 * x⌉) ∧
      encodeAlarmThreshold w
        = BitVec.ofInt 16 (n % 8192) ||| (if val w < 0 then 0x1000 else 0x0000) ∧
      (encodeAlarmThreshold w).extractLsb' 13 3 = 0

/-- In the range -256 <= val(w) < 256 the encoder is floor(16 * val(w)) mod 8192 in bits 12:0, with bits 15:13
zero (R111), and -0.03 (0xBCF5C28F) encodes as 0x1FFF. -/
def Obligations.EncoderIsFloorInRange : Prop :=
  ∀ w : Word, finite w = true → -256 ≤ val w → val w < 256 →
    (((encodeAlarmThreshold w).extractLsb' 0 13).toNat : Int) = ⌊16 * val w⌋ % 8192 ∧
    (encodeAlarmThreshold w).extractLsb' 13 3 = 0 ∧
    (w = 0xBCF5C28F → encodeAlarmThreshold w = 0x1FFF)

/-- Encoding and then decoding a value of the grid gives it back, and any finite value in range comes back as
floor(16 v)/16, in (v - 1/16, v] (R115). -/
def Obligations.ThresholdRoundTrip : Prop :=
  (∀ k : Int, -4096 ≤ k → k ≤ 4095 → decodeTemperature (encodeAlarmThreshold (bin32 k)) = k) ∧
  (∀ w : Word, finite w = true → -256 ≤ val w → val w < 256 →
    decodeTemperature (encodeAlarmThreshold w) = ⌊16 * val w⌋ ∧
    val w - 1 / 16 < (decodeTemperature (encodeAlarmThreshold w) : ℚ) / 16 ∧
    (decodeTemperature (encodeAlarmThreshold w) : ℚ) / 16 ≤ val w)

/-- Zeros and subnormals (R114): both zeros and every positive subnormal encode as 0x0000, every negative
subnormal as 0x1FFF, where an implementation that rounds v + 256 to binary32 would give 0x1000. -/
def Obligations.ZerosAndSubnormalsEncodeExactly : Prop :=
  encodeAlarmThreshold 0x00000000 = 0x0000 ∧ encodeAlarmThreshold 0x80000000 = 0x0000 ∧
  (∀ w : Word, expField w = 0 → fracField w ≠ 0 → signBit w = false →
    encodeAlarmThreshold w = 0x0000) ∧
  (∀ w : Word, expField w = 0 → fracField w ≠ 0 → signBit w = true →
    encodeAlarmThreshold w = 0x1FFF ∧ encodeThresholdWith .binary32 w = 0x1000)

/-- The wrap examples of R112. -/
def Obligations.OutOfRangeExamplesWrap : Prop :=
  encodeAlarmThreshold 0x43800000 = 0x1000 ∧ encodeAlarmThreshold 0x43960000 = 0x12C0 ∧
  encodeAlarmThreshold 0xC3804000 = 0x1FF8 ∧ encodeAlarmThreshold 0xC3960000 = 0x1D40 ∧
  encodeAlarmThreshold 0x7149F2CA = 0x0000 ∧ encodeAlarmThreshold 0xF149F2CA = 0x1000 ∧
  decodeTemperature 0x1000 = -256 * 16 ∧ decodeTemperature 0x1FF8 = -8

/-- The resolution encoder masks the code to 2 bits and puts it in bits 9:8, every other bit 0 (R120). -/
def Obligations.ResolutionEncoderMasksAndShifts : Prop :=
  ∀ code : BitVec 8,
    (encodeResolution code).toNat = code.toNat % 4 * 256 ∧
    encodeResolution code ∈ ([0x0000, 0x0100, 0x0200, 0x0300] : List Half) ∧
    encodeResolution code &&& 0xFCFF = 0

/-! ### Flags, addresses, bytes -/

/-- The flag manipulator: OR sets its bit, XOR inverts its bit, and the other 15 bits of CONFIG stay
(20_memory.md R62). -/
def Obligations.FlagManipulatorChangesOneBit : Prop :=
  ∀ (c : Half) (n : Nat),
    (setAlertEnable c).getLsbD n = (if n = 3 then true else c.getLsbD n) ∧
    (toggleAlertEnable c).getLsbD n = (if n = 3 then !c.getLsbD n else c.getLsbD n) ∧
    (setShutdown c).getLsbD n = (if n = 8 then true else c.getLsbD n) ∧
    (toggleShutdown c).getLsbD n = (if n = 8 then !c.getLsbD n else c.getLsbD n)

/-- The device address (R55). -/
def Obligations.DeviceAddressFromSelector : Prop :=
  ∀ s : State,
    s.devAddr = 0x18 ||| s.addrSel.setWidth 7 ∧
    s.devAddr = (0b0011 : BitVec 4) ++ s.addrSel ∧
    0x18 ≤ s.devAddr.toNat ∧ s.devAddr.toNat ≤ 0x1F ∧
    (s.addrSel = 0 → s.devAddr = 0x18) ∧ (s.addrSel = 7 → s.devAddr = 0x1F)

/-- Payloads cross the byte transport most significant byte first (20_memory.md R52, R56, R57). -/
def Obligations.PayloadsCrossHighByteFirst : Prop :=
  (∀ (a : DevAddr) (p : Ptr) (v : Half),
    byteSequence (.write a p v) = [.beginTransaction a, .write p, .write (v.extractLsb' 8 8),
      .write (v.extractLsb' 0 8), .endTransaction]) ∧
  (∀ (a : DevAddr) (p : Ptr),
    byteSequence (.read a p) = [.beginTransaction a, .write p, .endTransaction,
      .beginTransaction a, .requestBytes 2, .read, .read]) ∧
  (∀ (v : Half) (f g : Bool), (readAnswer f g (highByte v) (lowByte v)).rdata = v ∧
    ((readAnswer f g (highByte v) (lowByte v)).fail = true ↔ f = true ∨ g = true))

/-! ### What each command does: every step of its list, as a whole next state -/

/-- BEGIN, step by step: steps 1 to 3 when their transaction succeeds, and step 4, which makes none, on any input.
The manufacturer ID is compared in all 16 bits, a mismatch writes nothing and clears DET, a match writes
RESOLUTION and CONFIG and sets DET (41_driver.md, BEGIN). Each next state is given whole, so what it does not name
is unchanged; that CUR and the latches keep their values after a completion is the model's choice (log 25). -/
def Obligations.BeginStepsComplete : Prop :=
  ∀ (s : State) (d : Half),
    (s.seq = .busy 1 → s.now.answer = some (good d) → portFor (.read s.devAddr 0x06) s →
      exec .begin s = .next (if d = 0x0054
        then { afterTransaction (.read s.devAddr 0x06) (good d) s with rdTmp := d, seq := .busy 2 }
        else { afterTransaction (.read s.devAddr 0x06) (good d) s with
          rdTmp := d, seq := .idle, det := false,
          trace := .response ⟨.ok, 0⟩ ::
            (afterTransaction (.read s.devAddr 0x06) (good d) s).trace })) ∧
    (s.seq = .busy 2 → s.now.answer = some (good d) →
      portFor (.write s.devAddr 0x08 (encodeResolution (s.res.setWidth 8))) s →
      exec .begin s = .next { afterTransaction
        (.write s.devAddr 0x08 (encodeResolution (s.res.setWidth 8))) (good d) s with
        seq := .busy 3 }) ∧
    (s.seq = .busy 3 → s.now.answer = some (good d) → portFor (.write s.devAddr 0x01 0x0000) s →
      exec .begin s = .next { afterTransaction (.write s.devAddr 0x01 0x0000) (good d) s with
        seq := .busy 4 }) ∧
    (s.seq = .busy 4 →
      exec .begin s = .next { s with
        det := true, seq := .idle, trace := .response ⟨.ok, 1⟩ :: s.trace })

/-- READ, step by step, when its transaction succeeds (41_driver.md, READ): the result is the binary32 word of
the decoded reading, whatever DET is. That CUR and the latches keep their values after the completion is the
model's choice (log 25). -/
def Obligations.ReadStepsComplete : Prop :=
  ∀ (s : State) (d : Half),
    (s.seq = .busy 1 → s.now.answer = some (good d) → portFor (.read s.devAddr 0x05) s →
      exec .read s = .next { afterTransaction (.read s.devAddr 0x05) (good d) s with
        rdTmp := d, seq := .busy 2 }) ∧
    (s.seq = .busy 2 →
      exec .read s = .next { s with
        seq := .idle,
        trace := .response ⟨.ok, bin32 (s.rdTmp.extractLsb' 0 13).toInt⟩ :: s.trace })

/-- SETALARMS with finite operands, step by step: steps 1 to 5 when their transaction succeeds, and step 6, which
makes none, on any input (41_driver.md, SETALARMS): upper to 0x02 and 0x04, lower to 0x03, then the read and the
write back of CONFIG with bit 3 set. Each next state is given whole; that CUR and the latches keep their values
after the completion is the model's choice (log 25). -/
def Obligations.SetAlarmsStepsComplete : Prop :=
  ∀ (lower upper : Word) (s : State) (d : Half), finite lower = true → finite upper = true →
    (s.seq = .busy 1 → s.now.answer = some (good d) →
      portFor (.write s.devAddr 0x02 (encodeAlarmThreshold upper)) s →
      exec (.setAlarms lower upper) s = .next { afterTransaction
        (.write s.devAddr 0x02 (encodeAlarmThreshold upper)) (good d) s with seq := .busy 2 }) ∧
    (s.seq = .busy 2 → s.now.answer = some (good d) →
      portFor (.write s.devAddr 0x04 (encodeAlarmThreshold upper)) s →
      exec (.setAlarms lower upper) s = .next { afterTransaction
        (.write s.devAddr 0x04 (encodeAlarmThreshold upper)) (good d) s with seq := .busy 3 }) ∧
    (s.seq = .busy 3 → s.now.answer = some (good d) →
      portFor (.write s.devAddr 0x03 (encodeAlarmThreshold lower)) s →
      exec (.setAlarms lower upper) s = .next { afterTransaction
        (.write s.devAddr 0x03 (encodeAlarmThreshold lower)) (good d) s with seq := .busy 4 }) ∧
    (s.seq = .busy 4 → s.now.answer = some (good d) → portFor (.read s.devAddr 0x01) s →
      exec (.setAlarms lower upper) s = .next { afterTransaction (.read s.devAddr 0x01) (good d) s with
        cfgTmp := d, seq := .busy 5 }) ∧
    (s.seq = .busy 5 → s.now.answer = some (good d) →
      portFor (.write s.devAddr 0x01 (s.cfgTmp ||| 0x0008)) s →
      exec (.setAlarms lower upper) s = .next { afterTransaction
        (.write s.devAddr 0x01 (s.cfgTmp ||| 0x0008)) (good d) s with seq := .busy 6 }) ∧
    (s.seq = .busy 6 →
      exec (.setAlarms lower upper) s = .next { s with
        seq := .idle, trace := .response ⟨.ok, 0⟩ :: s.trace })

/-- DISALARMS, SDON and SDOFF, step by step, when their transactions succeed (41_driver.md): the read of CONFIG,
the write back with bit 3 inverted, bit 8 inverted or bit 8 set, and the completion, after which CUR and the latches keep their values by the model's
choice (log 25). -/
def Obligations.FlagCommandStepsComplete : Prop :=
  ∀ (i : Instr) (f : Half → Half),
    (i = .disAlarms ∧ f = fun c => c ^^^ 0x0008) ∨ (i = .sdOn ∧ f = fun c => c ^^^ 0x0100) ∨
      (i = .sdOff ∧ f = fun c => c ||| 0x0100) →
    ∀ (s : State) (d : Half),
      (s.seq = .busy 1 → s.now.answer = some (good d) → portFor (.read s.devAddr 0x01) s →
        exec i s = .next { afterTransaction (.read s.devAddr 0x01) (good d) s with
          cfgTmp := d, seq := .busy 2 }) ∧
      (s.seq = .busy 2 → s.now.answer = some (good d) →
        portFor (.write s.devAddr 0x01 (f s.cfgTmp)) s →
        exec i s = .next { afterTransaction (.write s.devAddr 0x01 (f s.cfgTmp)) (good d) s with
          seq := .busy 3 }) ∧
      (s.seq = .busy 3 →
        exec i s = .next { s with seq := .idle, trace := .response ⟨.ok, 0⟩ :: s.trace })

/-- SETRES, step by step, when its transaction succeeds (41_driver.md, SETRES): RES takes the low two bits of
the code, after the write and not before. That CUR and the latches keep their values after the completion is the
model's choice (log 25). -/
def Obligations.SetResStepsComplete : Prop :=
  ∀ (code : BitVec 8) (s : State) (d : Half),
    (s.seq = .busy 1 → s.now.answer = some (good d) →
      portFor (.write s.devAddr 0x08 (encodeResolution code)) s →
      exec (.setRes code) s = .next { afterTransaction
        (.write s.devAddr 0x08 (encodeResolution code)) (good d) s with seq := .busy 2 }) ∧
    (s.seq = .busy 2 →
      exec (.setRes code) s = .next { s with
        res := code.extractLsb' 0 2, seq := .idle, trace := .response ⟨.ok, 0⟩ :: s.trace })

/-- DECODE, ENCTHR (finite operand) and ENCRES complete in one step with their result; nothing but SEQ
changes, and no transaction is issued (40_codec.md, DECODE, ENCTHR, ENCRES). That CUR, CFGTMP and RDTMP keep their
values after it is the model's choice (log 25). -/
def Obligations.CodecCommandsComplete : Prop :=
  ∀ s : State, s.seq = .busy 1 →
    (∀ raw : Half, exec (.decode raw) s = .next { s with
      seq := .idle,
      trace := .response ⟨.ok, bin32 (raw.extractLsb' 0 13).toInt⟩ :: s.trace }) ∧
    (∀ value : Word, finite value = true → exec (.encThr value) s = .next { s with
      seq := .idle,
      trace := .response ⟨.ok, (encodeAlarmThreshold value).setWidth 32⟩ :: s.trace }) ∧
    (∀ code : BitVec 8, exec (.encRes code) s = .next { s with
      seq := .idle,
      trace := .response ⟨.ok, (encodeResolution code).setWidth 32⟩ :: s.trace })

/-! ### Errors -/

/-- ILLEGAL (60_exceptions.md, Status codes): a packet whose command word is not valid is accepted and completes in one step with
(ILLEGAL, 0), whatever its operands and whatever the transport answers; SEQ and CUR apart, no state element
changes and no transaction is issued. How the offers and the inputs are held is the model's choice
(logs 1 and 6, DESIGN CHOICE), and so is that CUR, CFGTMP and RDTMP keep their values while IDLE (log 25, DESIGN
CHOICE). -/
def Obligations.IllegalWordsCompleteWithIllegal : Prop :=
  ∀ (s : State) (p : Packet) (rest : List Packet),
    s.now.rst = false → s.seq = .idle → s.offers ++ s.now.offer.toList = p :: rest →
    validCmd p.cmd = false →
    step s = .next { s with
      cur := p, seq := .idle, offers := rest,
      trace := .response ⟨.illegal, 0⟩ :: .accept p :: s.trace,
      script := s.script.tail, time := s.time + 1 }

/-- DOMAIN (R172): ENCTHR with A not finite, and SETALARMS with A or B not finite, complete at their first step
with (DOMAIN, 0), before any transaction and whatever the transport answers; no TCFM state but SEQ changes. That CUR
and the latches keep their values after the completion, where I10 says any value, is the model's choice (log 25, DESIGN
CHOICE). -/
def Obligations.NonFiniteOperandsCompleteWithDomain : Prop :=
  ∀ (i : Instr) (s : State), operandsFinite i = false → s.seq = .busy 1 →
    exec i s = .next { s with
      seq := .idle, trace := .response ⟨.domain, 0⟩ :: s.trace }

/-- DOMAIN is raised by nothing else: not finite means exponent 0xFF, and only ENCTHR's A and SETALARMS' A and B
are tested (R100, R170, R172). -/
def Obligations.DomainOnlyForNonFiniteOperands : Prop :=
  ∀ (i : Instr) (s t : State) (w : Word) (l : List Event),
    exec i s = .next t → t.trace = .response ⟨.domain, w⟩ :: l → t.trace ≠ s.trace →
    (∃ v, i = .encThr v ∧ expField v = 0xFF) ∨
    (∃ lower upper, i = .setAlarms lower upper ∧ (expField lower = 0xFF ∨ expField upper = 0xFF))

/-- XFAIL (R173): when the transaction of a step fails, the command stops at that step with (XFAIL, 0). No
further transaction is issued, no state element that a later step would write is written, and BEGIN alone
clears DET. That the response comes in the step that failed is log 4 (DEDUCED), that CUR and the latches keep their
values after it log 25 (DESIGN CHOICE). The statement holds for every step of every command that makes a transaction. -/
def Obligations.FailedTransactionEndsCommand : Prop :=
  ∀ (i : Instr) (k : Nat) (s : State) (r : Request) (a : Answer),
    s.seq = .busy k → operandsFinite i = true → stepRequest i k s = some r → portFor r s →
    s.now.answer = some a → a.fail = true →
    exec i s = .next { afterTransaction r a s with
      det := (if i = .begin then false else s.det), seq := .idle,
      trace := .response ⟨.xfail, 0⟩ :: (afterTransaction r a s).trace }

/-- Priority (R175): an illegal word is ILLEGAL even with operands not finite and a transport that fails; a
DOMAIN command never reaches a transaction, even on a transport that fails; and otherwise the first failed
transaction decides. That one step both accepts the packet and performs its first step is log 3 (DEDUCED), and that
the error responds in the step that found it is log 4 (DEDUCED). -/
def Obligations.ErrorPriority : Prop :=
  ∀ (s : State) (p : Packet) (rest : List Packet),
    s.now.rst = false → s.seq = .idle → s.port = none →
    s.offers ++ s.now.offer.toList = p :: rest →
    ∃ t, step s = .next t ∧
      (Sys2Proof.decode p = none →
        t.trace = .response ⟨.illegal, 0⟩ :: .accept p :: s.trace) ∧
      (∀ i, Sys2Proof.decode p = some i → operandsFinite i = false →
        t.trace = .response ⟨.domain, 0⟩ :: .accept p :: s.trace) ∧
      (∀ i r a, Sys2Proof.decode p = some i → operandsFinite i = true → stepRequest i 1 s = some r →
        s.now.answer = some a → a.fail = true →
        t.trace = .response ⟨.xfail, 0⟩ :: .answer a :: .request r :: .accept p :: s.trace)

/-! ### Waiting, liveness, counts -/

/-- A transaction that is not answered leaves the command at its step: the request stands on the port and
nothing else changes (70_reset_and_hazards.md R204, log 5). -/
def Obligations.UnansweredTransactionWaits : Prop :=
  ∀ (i : Instr) (k : Nat) (s : State) (r : Request),
    s.seq = .busy k → operandsFinite i = true → stepRequest i k s = some r → portFor r s →
    s.now.answer = none →
    exec i s = .next { s with
      port := some r, trace := (if s.port = none then .request r :: s.trace else s.trace) }

/-- A transport that never answers is a hang: TCFM stays BUSY at the same step, gives no response, accepts no
packet and holds what the host offers, for as many steps as one cares to look (70_reset_and_hazards.md R204; that an unanswered step waits is log 5,
DEDUCED). -/
def Obligations.SilentTransportHangs : Prop :=
  ∀ (n : Nat) (s : State) (i : Instr) (k : Nat),
    Sys2Proof.decode s.cur = some i → s.seq = .busy k → LegalBusy i k s → k < lastStep i →
    n ≤ s.script.length → (∀ p ∈ s.script, p.rst = false ∧ p.answer = none) →
    ∃ t l, Host.Core.run Sys2Proof.core n s = .next t ∧ t.seq = .busy k ∧
      t.trace = l ++ s.trace ∧ NoResponse l ∧ NoAccept l ∧ s.offers <+: t.offers

/-- A command completes when the transport answers each of its transactions, however late: from any legal BUSY
state at step k, over any steps without reset of which at least as many have an answer as the command still has
transactions, and one step more, TCFM reaches IDLE, having given exactly one response, last, and accepted no packet
(70_reset_and_hazards.md R204; that an unanswered step waits is log 5). -/
def Obligations.AnsweredCommandCompletes : Prop :=
  ∀ (s : State) (i : Instr) (k : Nat) (front later : List Pins) (p : Pins),
    Sys2Proof.decode s.cur = some i → s.seq = .busy k → LegalBusy i k s →
    s.script = front ++ p :: later → (∀ q ∈ front, q.rst = false) → p.rst = false →
    lastStep i ≤ k + answerCount front →
    ∃ n t r l, n ≤ front.length + 1 ∧ Host.Core.run Sys2Proof.core n s = .next t ∧ t.seq = .idle ∧
      t.trace = .response r :: l ++ s.trace ∧ NoResponse l ∧ NoAccept l

/-- A command that meets no error makes exactly the transactions that R203 counts: run from its packet's
acceptance to its response, with every answer `id` for a match or mismatch of BEGIN's test. The bound on the steps, which counts acceptance and
the first step as one, is log 3 (DEDUCED), with one transaction or completion a step (10_state.md R20, R27). -/
def Obligations.TransactionCounts : Prop :=
  ∀ (s : State) (p : Packet) (rest : List Packet) (i : Instr) (id : Half),
    s.seq = .idle → s.port = none → s.offers = p :: rest → Sys2Proof.decode p = some i →
    operandsFinite i = true → lastStep i ≤ s.script.length → (∀ q ∈ s.script, q = answering (good id)) →
    ∃ n t l w, n ≤ lastStep i ∧ Host.Core.run Sys2Proof.core n s = .next t ∧ t.seq = .idle ∧
      t.trace = .response ⟨.ok, w⟩ :: l ++ .accept p :: s.trace ∧
      requestCount l = transactionCount id i

/-- The threshold multiplexer (41_driver.md, SETALARMS and the threshold multiplexer): a whole SETALARMS writes the encoded upper operand to ALERT_UPPER and
CRITICAL_TEMP and the encoded lower operand to ALERT_LOWER, in this order and before CONFIG; and no step of any
command writes CRITICAL_TEMP with any other value. That the whole command takes six steps, acceptance among them,
is log 3 (DEDUCED). -/
def Obligations.ThresholdMultiplexer : Prop :=
  (∀ (s : State) (lower upper : Word) (d1 d2 d3 d4 d5 : Half) (p6 : Pins) (rest : List Packet)
    (later : List Pins),
    s.seq = .idle → s.port = none → finite lower = true → finite upper = true → p6.rst = false →
    s.offers = encode (.setAlarms lower upper) :: rest →
    s.script = answering (good d1) :: answering (good d2) :: answering (good d3) ::
      answering (good d4) :: answering (good d5) :: p6 :: later →
    ∃ t, Host.Core.run Sys2Proof.core 6 s = .next t ∧ t.seq = .idle ∧
      t.trace = [.response ⟨.ok, 0⟩,
        .answer (good d5), .request (.write s.devAddr 0x01 (d4 ||| 0x0008)),
        .answer (good d4), .request (.read s.devAddr 0x01),
        .answer (good d3), .request (.write s.devAddr 0x03 (encodeAlarmThreshold lower)),
        .answer (good d2), .request (.write s.devAddr 0x04 (encodeAlarmThreshold upper)),
        .answer (good d1), .request (.write s.devAddr 0x02 (encodeAlarmThreshold upper)),
        .accept (encode (.setAlarms lower upper))] ++ s.trace) ∧
  (∀ (i : Instr) (s t : State) (l : List Event) (a : DevAddr) (v : Half),
    exec i s = .next t → t.trace = l ++ s.trace → Event.request (.write a 0x04 v) ∈ l →
    ∃ lower upper, i = .setAlarms lower upper ∧ v = encodeAlarmThreshold upper)

/-! ### Steps around a command -/

/-- A step runs the decoded instruction: from IDLE, the first packet on offer is latched and its first step
performed; while BUSY, the step that SEQ names is performed and the host's offers are held; the step's inputs
are used up. These are the model's readings and choices: that a packet is latched in the same step as its first
step is performed is log 3 (DEDUCED), the queue of offers log 6, the sampled input log 1 (both DESIGN CHOICE), and
withFetchWord logs 2 and 17 (DESIGN CHOICE). -/
def Obligations.StepRunsTheDecodedCommand : Prop :=
  (∀ (s : State) (p : Packet) (rest : List Packet) (i : Instr),
    s.now.rst = false → s.seq = .idle → s.offers ++ s.now.offer.toList = p :: rest →
    Sys2Proof.decode p = some i →
    step s = endStep (exec i { s with
      cur := p, seq := .busy 1, offers := rest, trace := .accept p :: s.trace })) ∧
  (∀ (s : State) (k : Nat) (i : Instr),
    s.now.rst = false → s.seq = .busy k → Sys2Proof.decode s.cur = some i →
    step s = endStep (exec i { s with offers := s.offers ++ s.now.offer.toList })) ∧
  (∀ (s t : State), endStep (.next t) = .next { t with script := t.script.tail, time := t.time + 1 } ∧
    s.withFetchWord 16 0x0001 = { s with
      seq := .idle, port := none, offers := ⟨0x0001, 0, 0⟩ :: s.offers,
      script := .quiet :: s.script })

/-- Reset (70_reset_and_hazards.md, Reset): whenever `rst` is asserted, in any state and also inside a command,
the step loads ADDR_SEL and RES from the configuration inputs, clears DET, makes SEQ IDLE, issues no transaction
and gives no response; and without `rst`, no step changes ADDR_SEL. What CUR, CFGTMP and RDTMP become is left free.
The model's readings and choices in it: held offers outlive the reset (log 6, DESIGN CHOICE), nothing is left on
the port (log 11, DEDUCED), and nothing else happens in the step (log 22, DEDUCED). -/
def Obligations.ResetLoadsConfiguration : Prop :=
  (∀ s : State, s.now.rst = true → ∃ t, step s = .next t ∧
    t.addrSel = s.now.cfgAddrSel ∧ t.res = s.now.cfgRes ∧ t.det = false ∧ t.seq = .idle ∧
    t.port = none ∧ t.trace = .reset :: s.trace ∧ t.offers = s.offers ++ s.now.offer.toList) ∧
  (∀ s t : State, s.now.rst = false → step s = .next t → t.addrSel = s.addrSel)

/-- The state that construction leaves (R190), for any configuration inputs. CUR, CFGTMP, RDTMP, the ports and
the model's own fields, and the configuration inputs of `State.reset`, are the model's choice (logs 1, 6, 7, 8,
10) and no part of this statement. -/
def Obligations.ConstructionLeavesTheResetState : Prop :=
  (∀ (a : BitVec 3) (c : BitVec 2),
    (State.construct a c).addrSel = a ∧ (State.construct a c).res = c ∧
    (State.construct a c).det = false ∧ (State.construct a c).seq = .idle) ∧
  State.reset.det = false ∧ State.reset.seq = .idle

/-- IDLE without an offer: TCFM waits for a packet (10_state.md R21, R27) and nothing changes. The whole next state
also holds the model's choices: that the step uses up one sample of the inputs and counts its time is log 1, that CUR,
CFGTMP and RDTMP, any value while IDLE (I10), keep what was last written is log 25 (both DESIGN CHOICE). -/
def Obligations.IdleWithoutOfferWaits : Prop :=
  ∀ s : State, s.now.rst = false → s.seq = .idle → s.offers = [] → s.now.offer = none →
    step s = .next { s with script := s.script.tail, time := s.time + 1 }

/-- The host's offers (10_state.md R21): a packet leaves the queue only when TCFM, IDLE and not in reset, takes the
first of them; while BUSY an offer is neither taken nor lost. The model's choices and readings in it: the queue, its
order and that it outlives a reset (log 6, DESIGN CHOICE); that CUR still holds the packet where its command completes in
the step that accepts it (log 3, DEDUCED) and SEQ is IDLE again, where I10 says any value (log 25, DESIGN CHOICE). -/
def Obligations.OffersAreHeldUntilTaken : Prop :=
  ∀ s t : State, step s = .next t →
    (t.offers = s.offers ++ s.now.offer.toList ∧ ∃ l, t.trace = l ++ s.trace ∧ NoAccept l) ∨
    (s.now.rst = false ∧ s.seq = .idle ∧ ∃ p, s.offers ++ s.now.offer.toList = p :: t.offers ∧
      t.cur = p ∧ ∃ l, t.trace = l ++ .accept p :: s.trace ∧ NoAccept l)

/-- How SEQ moves (R27): to the next step of the list, to IDLE, or, while a transaction waits, not at all
(log 5, DEDUCED). -/
def Obligations.SequencerMovesOneStep : Prop :=
  ∀ (i : Instr) (s t : State) (k : Nat), s.seq = .busy k → exec i s = .next t →
    t.seq = .idle ∨ (t.seq = .busy (k + 1) ∧ k + 1 ≤ lastStep i ∧ lastStep i ≤ 6) ∨
    (t.seq = .busy k ∧ s.now.answer = none ∧ t.port.isSome = true)

/-! ### Frames and whole-machine rules -/

/-- The frame of every command: a step never changes ADDR_SEL, CUR, the offers or the model's inputs; RES
changes only at SETRES's last step, DET only by BEGIN, CFGTMP only at the CONFIG read of the commands that
write it, RDTMP only at the read of BEGIN and READ; and the record only grows. The offers, the inputs and the record
are the model's fields (logs 6, 1, 10); that a completion keeps CUR, CFGTMP and RDTMP is log 25 (all DESIGN CHOICE). -/
def Obligations.CommandFrame : Prop :=
  ∀ (i : Instr) (s t : State), exec i s = .next t →
    t.addrSel = s.addrSel ∧ t.cur = s.cur ∧ t.offers = s.offers ∧ t.script = s.script ∧
    t.time = s.time ∧
    (t.res ≠ s.res → ∃ code, i = .setRes code ∧ s.seq = .busy 2 ∧ t.res = code.extractLsb' 0 2) ∧
    (t.det ≠ s.det → i = .begin ∧ t.seq = .idle) ∧
    (t.cfgTmp ≠ s.cfgTmp → (s.seq = .busy 1 ∧ (i = .disAlarms ∨ i = .sdOn ∨ i = .sdOff)) ∨
      (s.seq = .busy 4 ∧ ∃ lower upper, i = .setAlarms lower upper)) ∧
    (t.rdTmp ≠ s.rdTmp → s.seq = .busy 1 ∧ (i = .begin ∨ i = .read)) ∧
    (∃ l, t.trace = l ++ s.trace)

/-- Only BEGIN and reset write DET, only SETRES and reset write RES, only reset writes ADDR_SEL (R29, R31),
over every step of the machine. The command is read from CUR after the step, which has then completed: that CUR still
holds it while IDLE, where I10 says any value, is the model's choice (log 25, DESIGN CHOICE), and that a BEGIN may end
in the step that accepts it is log 3 (DEDUCED), with log 4 (DEDUCED). -/
def Obligations.ControlStateWriters : Prop :=
  ∀ s t : State, s.now.rst = false → step s = .next t →
    t.addrSel = s.addrSel ∧
    (t.det ≠ s.det → Sys2Proof.decode t.cur = some .begin) ∧
    (t.res ≠ s.res → ∃ code, Sys2Proof.decode t.cur = some (.setRes code))

/-- DET gates nothing (R29): two machines that differ only in DET have outcomes of the same kind and show the same
on every port but `det`, for ever, whatever the host and the transport do. -/
def Obligations.DetGatesNothing : Prop :=
  ∀ (n : Nat) (s : State) (d : Bool),
    outcomesAgree showSameButDet (Host.Core.run Sys2Proof.core n s)
      (Host.Core.run Sys2Proof.core n { s with det := d })

/-- CUR, CFGTMP and RDTMP cannot be observed outside a command (R25): two machines that are IDLE and differ only
in them have outcomes of the same kind and show the same on every port, for ever, whatever the host and the
transport do. -/
def Obligations.LatchesUnobservableWhileIdle : Prop :=
  ∀ (n : Nat) (s t : State), s.seq = .idle → sameButLatches s t →
    outcomesAgree (fun s' t' => showSameButDet s' t' ∧ s'.det = t'.det)
      (Host.Core.run Sys2Proof.core n s) (Host.Core.run Sys2Proof.core n t)

/-! ### Invariants -/

/-- Every construction meets the invariant, whatever the configuration inputs. -/
def Obligations.ConstructionMeetsInv : Prop :=
  ∀ (a : BitVec 3) (c : BitVec 2), Inv (State.construct a c)

/-- Every step keeps the sequencer legal (R27). That a command at step 1 has its request standing is log 3, that a
request stands while unanswered log 5 (both DEDUCED). -/
def Obligations.LegalSequencerKept : Prop :=
  ∀ s t : State, LegalSeq s → step s = .next t → LegalSeq t

/-- Every step keeps the record of the ports orderly: one transaction at a time, each answered before the next,
none after a failure, one response per accepted command, XFAIL exactly after a failure, RESULT 0 on every error
(R8, R21, R22, R23, R58, R173). The record itself is the model's (log 10). -/
def Obligations.OrderlyRecordKept : Prop :=
  ∀ s t : State, RecordAgrees s → LegalSeq s → step s = .next t → RecordAgrees t

/-- Every step issues only requests that 20_memory.md allows: the pointers and directions of R59, device
addresses 0x18 to 0x1F (R55), payloads of the shapes of R63 and R67. -/
def Obligations.OnlyAllowedRequestsKept : Prop :=
  ∀ s t : State, OnlyAllowed s.trace → step s = .next t → OnlyAllowed t.trace

/-- Every step keeps CFGTMP equal to the value just read from 0x01, CONFIG, until the write back (R28), and RDTMP to
the reading just taken from 0x05, TEMPERATURE, until it is decoded (R135). -/
def Obligations.LatchedDataKept : Prop :=
  ∀ s t : State, Inv s → step s = .next t → LatchesHoldData t

/-- From every state that meets the invariant, a run of any length ends in a state that meets it: no step faults or
refuses, whatever the host and the transport do. -/
def Obligations.EveryRunIsSafe : Prop :=
  ∀ (n : Nat) (s : State), Inv s → ∃ t, Host.Core.run Sys2Proof.core n s = .next t ∧ Inv t

/-! ### The bench: TCFM with the reference sensor of 95_test_vectors.md, which is not a claim about the chip -/

/-- R196: one command repeated on the same CONFIG value. DISALARMS n times leaves bit 3 inverted n times, SDON n
times bit 8; SETALARMS or SDOFF n >= 1 times leave their bit at 1. That a command with its transactions takes 5 or
11 bench steps is the model's choice (log 20, with logs 3 and 5). -/
def Obligations.RepeatedFlagCommands : Prop :=
  ∀ (n : Nat) (b : Bench) (lower upper : Word), quietBench b → finite lower = true →
    finite upper = true →
    alertEnabled ((fun b => b.issue (encode .disAlarms) 5)^[n] b).sensor.config
      = (alertEnabled b.sensor.config ^^ decide (n % 2 = 1)) ∧
    shutDown ((fun b => b.issue (encode .sdOn) 5)^[n] b).sensor.config
      = (shutDown b.sensor.config ^^ decide (n % 2 = 1)) ∧
    (1 ≤ n → alertEnabled
      ((fun b => b.issue (encode (.setAlarms lower upper)) 11)^[n] b).sensor.config = true) ∧
    (1 ≤ n → shutDown ((fun b => b.issue (encode .sdOff) 5)^[n] b).sensor.config = true)

/-- R199: a BEGIN that finds its manufacturer ID overwrites all of CONFIG with 0, whatever it held, so a sensor
that was shut down is ON again and alerts are disabled; RESOLUTION gets the stored code. That BEGIN
takes 7 bench steps is the model's choice (log 20, with logs 3 and 5). -/
def Obligations.BeginClearsConfig : Prop :=
  ∀ b : Bench, quietBench b → b.sensor.mfgId = 0x0054 →
    (b.issue (encode .begin) 7).sensor
      = { b.sensor with config := 0x0000, resolution := encodeResolution (b.tcfm.res.setWidth 8) } ∧
    (b.issue (encode .begin) 7).tcfm.det = true ∧
    alertEnabled (b.issue (encode .begin) 7).sensor.config = false ∧
    shutDown (b.issue (encode .begin) 7).sensor.config = false

/-- R198: a SETALARMS whose transaction number j + 1 fails leaves exactly the threshold writes before it, never
alert-enable, and the response is (XFAIL, 0) whichever it was. The number of bench steps is the model's choice
(log 20, with logs 3, 4 and 5). -/
def Obligations.PartialSetAlarms : Prop :=
  ∀ (b : Bench) (lower upper : Word) (j : Nat), quietBench b → finite lower = true →
    finite upper = true → j < 5 →
    ∃ l, ∃ b' : Bench,
      b' = ({ b with sensor := { b.sensor with fails := List.replicate j false ++ [true] } }
        : Bench).issue (encode (.setAlarms lower upper)) (2 * (j + 1)) ∧
      b'.sensor = { b.sensor with
        alertUpper := if 1 ≤ j then encodeAlarmThreshold upper else b.sensor.alertUpper,
        critical := if 2 ≤ j then encodeAlarmThreshold upper else b.sensor.critical,
        alertLower := if 3 ≤ j then encodeAlarmThreshold lower else b.sensor.alertLower } ∧
      b'.tcfm.seq = .idle ∧ b'.tcfm.trace = .response ⟨.xfail, 0⟩ :: l
end

