-- ==== Sys2Proof/Laws/State.lean ====
section
/-! SUPPORT. What each update of State does to each field: true by rfl, used by simp. -/

namespace Sys2Proof.Machine

open Sys2Proof

/-! ### `State.goTo` -/

@[simp] theorem goTo_addrSel (k : Nat) (s : State) : (s.goTo k).addrSel = s.addrSel := rfl
@[simp] theorem goTo_res (k : Nat) (s : State) : (s.goTo k).res = s.res := rfl
@[simp] theorem goTo_det (k : Nat) (s : State) : (s.goTo k).det = s.det := rfl
@[simp] theorem goTo_seq (k : Nat) (s : State) : (s.goTo k).seq = .busy k := rfl
@[simp] theorem goTo_cur (k : Nat) (s : State) : (s.goTo k).cur = s.cur := rfl
@[simp] theorem goTo_cfgTmp (k : Nat) (s : State) : (s.goTo k).cfgTmp = s.cfgTmp := rfl
@[simp] theorem goTo_rdTmp (k : Nat) (s : State) : (s.goTo k).rdTmp = s.rdTmp := rfl
@[simp] theorem goTo_offers (k : Nat) (s : State) : (s.goTo k).offers = s.offers := rfl
@[simp] theorem goTo_port (k : Nat) (s : State) : (s.goTo k).port = s.port := rfl
@[simp] theorem goTo_trace (k : Nat) (s : State) : (s.goTo k).trace = s.trace := rfl
@[simp] theorem goTo_script (k : Nat) (s : State) : (s.goTo k).script = s.script := rfl
@[simp] theorem goTo_time (k : Nat) (s : State) : (s.goTo k).time = s.time := rfl

/-! ### `State.respond` -/

@[simp] theorem respond_addrSel (st : Status) (w : Word) (s : State) : (s.respond st w).addrSel = s.addrSel := rfl
@[simp] theorem respond_res (st : Status) (w : Word) (s : State) : (s.respond st w).res = s.res := rfl
@[simp] theorem respond_det (st : Status) (w : Word) (s : State) : (s.respond st w).det = s.det := rfl
@[simp] theorem respond_seq (st : Status) (w : Word) (s : State) : (s.respond st w).seq = .idle := rfl
@[simp] theorem respond_cur (st : Status) (w : Word) (s : State) : (s.respond st w).cur = s.cur := rfl
@[simp] theorem respond_cfgTmp (st : Status) (w : Word) (s : State) : (s.respond st w).cfgTmp = s.cfgTmp := rfl
@[simp] theorem respond_rdTmp (st : Status) (w : Word) (s : State) : (s.respond st w).rdTmp = s.rdTmp := rfl
@[simp] theorem respond_offers (st : Status) (w : Word) (s : State) : (s.respond st w).offers = s.offers := rfl
@[simp] theorem respond_port (st : Status) (w : Word) (s : State) : (s.respond st w).port = s.port := rfl
@[simp] theorem respond_trace (st : Status) (w : Word) (s : State) : (s.respond st w).trace = .response ⟨st, w⟩ :: s.trace := rfl
@[simp] theorem respond_script (st : Status) (w : Word) (s : State) : (s.respond st w).script = s.script := rfl
@[simp] theorem respond_time (st : Status) (w : Word) (s : State) : (s.respond st w).time = s.time := rfl

/-! ### `State.setDet` -/

@[simp] theorem setDet_addrSel (d : Bool) (s : State) : (s.setDet d).addrSel = s.addrSel := rfl
@[simp] theorem setDet_res (d : Bool) (s : State) : (s.setDet d).res = s.res := rfl
@[simp] theorem setDet_det (d : Bool) (s : State) : (s.setDet d).det = d := rfl
@[simp] theorem setDet_seq (d : Bool) (s : State) : (s.setDet d).seq = s.seq := rfl
@[simp] theorem setDet_cur (d : Bool) (s : State) : (s.setDet d).cur = s.cur := rfl
@[simp] theorem setDet_cfgTmp (d : Bool) (s : State) : (s.setDet d).cfgTmp = s.cfgTmp := rfl
@[simp] theorem setDet_rdTmp (d : Bool) (s : State) : (s.setDet d).rdTmp = s.rdTmp := rfl
@[simp] theorem setDet_offers (d : Bool) (s : State) : (s.setDet d).offers = s.offers := rfl
@[simp] theorem setDet_port (d : Bool) (s : State) : (s.setDet d).port = s.port := rfl
@[simp] theorem setDet_trace (d : Bool) (s : State) : (s.setDet d).trace = s.trace := rfl
@[simp] theorem setDet_script (d : Bool) (s : State) : (s.setDet d).script = s.script := rfl
@[simp] theorem setDet_time (d : Bool) (s : State) : (s.setDet d).time = s.time := rfl

/-! ### `State.setResCode` -/

@[simp] theorem setResCode_addrSel (c : BitVec 2) (s : State) : (s.setResCode c).addrSel = s.addrSel := rfl
@[simp] theorem setResCode_res (c : BitVec 2) (s : State) : (s.setResCode c).res = c := rfl
@[simp] theorem setResCode_det (c : BitVec 2) (s : State) : (s.setResCode c).det = s.det := rfl
@[simp] theorem setResCode_seq (c : BitVec 2) (s : State) : (s.setResCode c).seq = s.seq := rfl
@[simp] theorem setResCode_cur (c : BitVec 2) (s : State) : (s.setResCode c).cur = s.cur := rfl
@[simp] theorem setResCode_cfgTmp (c : BitVec 2) (s : State) : (s.setResCode c).cfgTmp = s.cfgTmp := rfl
@[simp] theorem setResCode_rdTmp (c : BitVec 2) (s : State) : (s.setResCode c).rdTmp = s.rdTmp := rfl
@[simp] theorem setResCode_offers (c : BitVec 2) (s : State) : (s.setResCode c).offers = s.offers := rfl
@[simp] theorem setResCode_port (c : BitVec 2) (s : State) : (s.setResCode c).port = s.port := rfl
@[simp] theorem setResCode_trace (c : BitVec 2) (s : State) : (s.setResCode c).trace = s.trace := rfl
@[simp] theorem setResCode_script (c : BitVec 2) (s : State) : (s.setResCode c).script = s.script := rfl
@[simp] theorem setResCode_time (c : BitVec 2) (s : State) : (s.setResCode c).time = s.time := rfl

/-! ### `State.setCfgTmp` -/

@[simp] theorem setCfgTmp_addrSel (v : Half) (s : State) : (s.setCfgTmp v).addrSel = s.addrSel := rfl
@[simp] theorem setCfgTmp_res (v : Half) (s : State) : (s.setCfgTmp v).res = s.res := rfl
@[simp] theorem setCfgTmp_det (v : Half) (s : State) : (s.setCfgTmp v).det = s.det := rfl
@[simp] theorem setCfgTmp_seq (v : Half) (s : State) : (s.setCfgTmp v).seq = s.seq := rfl
@[simp] theorem setCfgTmp_cur (v : Half) (s : State) : (s.setCfgTmp v).cur = s.cur := rfl
@[simp] theorem setCfgTmp_cfgTmp (v : Half) (s : State) : (s.setCfgTmp v).cfgTmp = v := rfl
@[simp] theorem setCfgTmp_rdTmp (v : Half) (s : State) : (s.setCfgTmp v).rdTmp = s.rdTmp := rfl
@[simp] theorem setCfgTmp_offers (v : Half) (s : State) : (s.setCfgTmp v).offers = s.offers := rfl
@[simp] theorem setCfgTmp_port (v : Half) (s : State) : (s.setCfgTmp v).port = s.port := rfl
@[simp] theorem setCfgTmp_trace (v : Half) (s : State) : (s.setCfgTmp v).trace = s.trace := rfl
@[simp] theorem setCfgTmp_script (v : Half) (s : State) : (s.setCfgTmp v).script = s.script := rfl
@[simp] theorem setCfgTmp_time (v : Half) (s : State) : (s.setCfgTmp v).time = s.time := rfl

/-! ### `State.setRdTmp` -/

@[simp] theorem setRdTmp_addrSel (v : Half) (s : State) : (s.setRdTmp v).addrSel = s.addrSel := rfl
@[simp] theorem setRdTmp_res (v : Half) (s : State) : (s.setRdTmp v).res = s.res := rfl
@[simp] theorem setRdTmp_det (v : Half) (s : State) : (s.setRdTmp v).det = s.det := rfl
@[simp] theorem setRdTmp_seq (v : Half) (s : State) : (s.setRdTmp v).seq = s.seq := rfl
@[simp] theorem setRdTmp_cur (v : Half) (s : State) : (s.setRdTmp v).cur = s.cur := rfl
@[simp] theorem setRdTmp_cfgTmp (v : Half) (s : State) : (s.setRdTmp v).cfgTmp = s.cfgTmp := rfl
@[simp] theorem setRdTmp_rdTmp (v : Half) (s : State) : (s.setRdTmp v).rdTmp = v := rfl
@[simp] theorem setRdTmp_offers (v : Half) (s : State) : (s.setRdTmp v).offers = s.offers := rfl
@[simp] theorem setRdTmp_port (v : Half) (s : State) : (s.setRdTmp v).port = s.port := rfl
@[simp] theorem setRdTmp_trace (v : Half) (s : State) : (s.setRdTmp v).trace = s.trace := rfl
@[simp] theorem setRdTmp_script (v : Half) (s : State) : (s.setRdTmp v).script = s.script := rfl
@[simp] theorem setRdTmp_time (v : Half) (s : State) : (s.setRdTmp v).time = s.time := rfl

/-! ### `State.settle` -/

@[simp] theorem settle_addrSel (a : Answer) (s : State) : (s.settle a).addrSel = s.addrSel := rfl
@[simp] theorem settle_res (a : Answer) (s : State) : (s.settle a).res = s.res := rfl
@[simp] theorem settle_det (a : Answer) (s : State) : (s.settle a).det = s.det := rfl
@[simp] theorem settle_seq (a : Answer) (s : State) : (s.settle a).seq = s.seq := rfl
@[simp] theorem settle_cur (a : Answer) (s : State) : (s.settle a).cur = s.cur := rfl
@[simp] theorem settle_cfgTmp (a : Answer) (s : State) : (s.settle a).cfgTmp = s.cfgTmp := rfl
@[simp] theorem settle_rdTmp (a : Answer) (s : State) : (s.settle a).rdTmp = s.rdTmp := rfl
@[simp] theorem settle_offers (a : Answer) (s : State) : (s.settle a).offers = s.offers := rfl
@[simp] theorem settle_port (a : Answer) (s : State) : (s.settle a).port = none := rfl
@[simp] theorem settle_trace (a : Answer) (s : State) : (s.settle a).trace = .answer a :: s.trace := rfl
@[simp] theorem settle_script (a : Answer) (s : State) : (s.settle a).script = s.script := rfl
@[simp] theorem settle_time (a : Answer) (s : State) : (s.settle a).time = s.time := rfl

/-! ### `State.tick` -/

@[simp] theorem tick_addrSel (s : State) : (s.tick).addrSel = s.addrSel := rfl
@[simp] theorem tick_res (s : State) : (s.tick).res = s.res := rfl
@[simp] theorem tick_det (s : State) : (s.tick).det = s.det := rfl
@[simp] theorem tick_seq (s : State) : (s.tick).seq = s.seq := rfl
@[simp] theorem tick_cur (s : State) : (s.tick).cur = s.cur := rfl
@[simp] theorem tick_cfgTmp (s : State) : (s.tick).cfgTmp = s.cfgTmp := rfl
@[simp] theorem tick_rdTmp (s : State) : (s.tick).rdTmp = s.rdTmp := rfl
@[simp] theorem tick_offers (s : State) : (s.tick).offers = s.offers := rfl
@[simp] theorem tick_port (s : State) : (s.tick).port = s.port := rfl
@[simp] theorem tick_trace (s : State) : (s.tick).trace = s.trace := rfl
@[simp] theorem tick_script (s : State) : (s.tick).script = s.script.tail := rfl
@[simp] theorem tick_time (s : State) : (s.tick).time = s.time + 1 := rfl

/-! ### `State.arrive` -/

@[simp] theorem arrive_addrSel (s : State) : (s.arrive).addrSel = s.addrSel := rfl
@[simp] theorem arrive_res (s : State) : (s.arrive).res = s.res := rfl
@[simp] theorem arrive_det (s : State) : (s.arrive).det = s.det := rfl
@[simp] theorem arrive_seq (s : State) : (s.arrive).seq = s.seq := rfl
@[simp] theorem arrive_cur (s : State) : (s.arrive).cur = s.cur := rfl
@[simp] theorem arrive_cfgTmp (s : State) : (s.arrive).cfgTmp = s.cfgTmp := rfl
@[simp] theorem arrive_rdTmp (s : State) : (s.arrive).rdTmp = s.rdTmp := rfl
@[simp] theorem arrive_offers (s : State) : (s.arrive).offers = s.offers ++ s.now.offer.toList := rfl
@[simp] theorem arrive_port (s : State) : (s.arrive).port = s.port := rfl
@[simp] theorem arrive_trace (s : State) : (s.arrive).trace = s.trace := rfl
@[simp] theorem arrive_script (s : State) : (s.arrive).script = s.script := rfl
@[simp] theorem arrive_time (s : State) : (s.arrive).time = s.time := rfl

/-! ### `State.resetBy` -/

@[simp] theorem resetBy_addrSel (a : BitVec 3) (c : BitVec 2) (s : State) : (s.resetBy a c).addrSel = a := rfl
@[simp] theorem resetBy_res (a : BitVec 3) (c : BitVec 2) (s : State) : (s.resetBy a c).res = c := rfl
@[simp] theorem resetBy_det (a : BitVec 3) (c : BitVec 2) (s : State) : (s.resetBy a c).det = false := rfl
@[simp] theorem resetBy_seq (a : BitVec 3) (c : BitVec 2) (s : State) : (s.resetBy a c).seq = .idle := rfl
@[simp] theorem resetBy_cur (a : BitVec 3) (c : BitVec 2) (s : State) : (s.resetBy a c).cur = Config.freeCur s.time := rfl
@[simp] theorem resetBy_cfgTmp (a : BitVec 3) (c : BitVec 2) (s : State) : (s.resetBy a c).cfgTmp = Config.freeCfgTmp s.time := rfl
@[simp] theorem resetBy_rdTmp (a : BitVec 3) (c : BitVec 2) (s : State) : (s.resetBy a c).rdTmp = Config.freeRdTmp s.time := rfl
@[simp] theorem resetBy_offers (a : BitVec 3) (c : BitVec 2) (s : State) : (s.resetBy a c).offers = s.offers := rfl
@[simp] theorem resetBy_port (a : BitVec 3) (c : BitVec 2) (s : State) : (s.resetBy a c).port = none := rfl
@[simp] theorem resetBy_trace (a : BitVec 3) (c : BitVec 2) (s : State) : (s.resetBy a c).trace = .reset :: s.trace := rfl
@[simp] theorem resetBy_script (a : BitVec 3) (c : BitVec 2) (s : State) : (s.resetBy a c).script = s.script := rfl
@[simp] theorem resetBy_time (a : BitVec 3) (c : BitVec 2) (s : State) : (s.resetBy a c).time = s.time := rfl

/-! ### `State.accept` -/

@[simp] theorem accept_addrSel (p : Packet) (l : List Packet) (s : State) : (s.accept p l).addrSel = s.addrSel := rfl
@[simp] theorem accept_res (p : Packet) (l : List Packet) (s : State) : (s.accept p l).res = s.res := rfl
@[simp] theorem accept_det (p : Packet) (l : List Packet) (s : State) : (s.accept p l).det = s.det := rfl
@[simp] theorem accept_seq (p : Packet) (l : List Packet) (s : State) : (s.accept p l).seq = .busy 1 := rfl
@[simp] theorem accept_cur (p : Packet) (l : List Packet) (s : State) : (s.accept p l).cur = p := rfl
@[simp] theorem accept_cfgTmp (p : Packet) (l : List Packet) (s : State) : (s.accept p l).cfgTmp = s.cfgTmp := rfl
@[simp] theorem accept_rdTmp (p : Packet) (l : List Packet) (s : State) : (s.accept p l).rdTmp = s.rdTmp := rfl
@[simp] theorem accept_offers (p : Packet) (l : List Packet) (s : State) : (s.accept p l).offers = l := rfl
@[simp] theorem accept_port (p : Packet) (l : List Packet) (s : State) : (s.accept p l).port = s.port := rfl
@[simp] theorem accept_trace (p : Packet) (l : List Packet) (s : State) : (s.accept p l).trace = .accept p :: s.trace := rfl
@[simp] theorem accept_script (p : Packet) (l : List Packet) (s : State) : (s.accept p l).script = s.script := rfl
@[simp] theorem accept_time (p : Packet) (l : List Packet) (s : State) : (s.accept p l).time = s.time := rfl

/-! ### `State.offerNext` -/

@[simp] theorem offerNext_addrSel (p : Packet) (s : State) : (s.offerNext p).addrSel = s.addrSel := rfl
@[simp] theorem offerNext_res (p : Packet) (s : State) : (s.offerNext p).res = s.res := rfl
@[simp] theorem offerNext_det (p : Packet) (s : State) : (s.offerNext p).det = s.det := rfl
@[simp] theorem offerNext_seq (p : Packet) (s : State) : (s.offerNext p).seq = .idle := rfl
@[simp] theorem offerNext_cur (p : Packet) (s : State) : (s.offerNext p).cur = s.cur := rfl
@[simp] theorem offerNext_cfgTmp (p : Packet) (s : State) : (s.offerNext p).cfgTmp = s.cfgTmp := rfl
@[simp] theorem offerNext_rdTmp (p : Packet) (s : State) : (s.offerNext p).rdTmp = s.rdTmp := rfl
@[simp] theorem offerNext_offers (p : Packet) (s : State) : (s.offerNext p).offers = p :: s.offers := rfl
@[simp] theorem offerNext_port (p : Packet) (s : State) : (s.offerNext p).port = none := rfl
@[simp] theorem offerNext_trace (p : Packet) (s : State) : (s.offerNext p).trace = s.trace := rfl
@[simp] theorem offerNext_script (p : Packet) (s : State) : (s.offerNext p).script = .quiet :: s.script := rfl
@[simp] theorem offerNext_time (p : Packet) (s : State) : (s.offerNext p).time = s.time := rfl

/-! ### `State.issue`: only the port and the record -/

@[simp] theorem issue_addrSel (r : Request) (s : State) : (s.issue r).addrSel = s.addrSel := by
  unfold State.issue; split <;> rfl
@[simp] theorem issue_res (r : Request) (s : State) : (s.issue r).res = s.res := by
  unfold State.issue; split <;> rfl
@[simp] theorem issue_det (r : Request) (s : State) : (s.issue r).det = s.det := by
  unfold State.issue; split <;> rfl
@[simp] theorem issue_seq (r : Request) (s : State) : (s.issue r).seq = s.seq := by
  unfold State.issue; split <;> rfl
@[simp] theorem issue_cur (r : Request) (s : State) : (s.issue r).cur = s.cur := by
  unfold State.issue; split <;> rfl
@[simp] theorem issue_cfgTmp (r : Request) (s : State) : (s.issue r).cfgTmp = s.cfgTmp := by
  unfold State.issue; split <;> rfl
@[simp] theorem issue_rdTmp (r : Request) (s : State) : (s.issue r).rdTmp = s.rdTmp := by
  unfold State.issue; split <;> rfl
@[simp] theorem issue_offers (r : Request) (s : State) : (s.issue r).offers = s.offers := by
  unfold State.issue; split <;> rfl
@[simp] theorem issue_script (r : Request) (s : State) : (s.issue r).script = s.script := by
  unfold State.issue; split <;> rfl
@[simp] theorem issue_time (r : Request) (s : State) : (s.issue r).time = s.time := by
  unfold State.issue; split <;> rfl

/-- A request that is already standing is not issued again. -/
theorem issue_of_standing {r q : Request} {s : State} (h : s.port = some q) : s.issue r = s := by
  unfold State.issue; rw [h]

/-- A request is issued when nothing stands on the port. -/
theorem issue_of_free {r : Request} {s : State} (h : s.port = none) :
    s.issue r = { s with port := some r, trace := .request r :: s.trace } := by
  unfold State.issue; rw [h]

/-! ### Error completions are responses with RESULT 0 -/

@[simp] theorem fail_eq_respond (st : Status) (s : State) : s.fail st = s.respond st 0 := rfl
@[simp] theorem xfail_eq_respond (s : State) : s.xfail = s.respond .xfail 0 := rfl

/-! ### The input pins -/

@[simp] theorem now_of_script {s : State} {p : Pins} {l : List Pins} (h : s.script = p :: l) :
    s.now = p := by
  unfold State.now; rw [h]

/-- The pins depend on the script and the step number alone. -/
theorem now_congr {s t : State} (hs : s.script = t.script) (ht : s.time = t.time) : s.now = t.now := by
  unfold State.now; rw [hs, ht]

@[simp] theorem goTo_now (k : Nat) (s : State) : (s.goTo k).now = s.now := now_congr rfl rfl
@[simp] theorem respond_now (st : Status) (w : Word) (s : State) : (s.respond st w).now = s.now := now_congr rfl rfl
@[simp] theorem setDet_now (d : Bool) (s : State) : (s.setDet d).now = s.now := now_congr rfl rfl
@[simp] theorem setResCode_now (c : BitVec 2) (s : State) : (s.setResCode c).now = s.now := now_congr rfl rfl
@[simp] theorem setCfgTmp_now (v : Half) (s : State) : (s.setCfgTmp v).now = s.now := now_congr rfl rfl
@[simp] theorem setRdTmp_now (v : Half) (s : State) : (s.setRdTmp v).now = s.now := now_congr rfl rfl
@[simp] theorem settle_now (a : Answer) (s : State) : (s.settle a).now = s.now := now_congr rfl rfl
@[simp] theorem arrive_now (s : State) : (s.arrive).now = s.now := now_congr rfl rfl
@[simp] theorem resetBy_now (a : BitVec 3) (c : BitVec 2) (s : State) : (s.resetBy a c).now = s.now := now_congr rfl rfl
@[simp] theorem accept_now (p : Packet) (l : List Packet) (s : State) : (s.accept p l).now = s.now := now_congr rfl rfl
@[simp] theorem issue_now (r : Request) (s : State) : (s.issue r).now = s.now :=
  now_congr (by simp) (by simp)

/-- The device address depends on ADDR_SEL alone (20_memory.md R55). -/
theorem devAddr_congr {s t : State} (h : s.addrSel = t.addrSel) : s.devAddr = t.devAddr := by
  unfold State.devAddr; rw [h]

/-! ### `afterTransaction` -/

@[simp] theorem afterTransaction_addrSel (r : Request) (a : Answer) (s : State) : (afterTransaction r a s).addrSel = s.addrSel := rfl
@[simp] theorem afterTransaction_res (r : Request) (a : Answer) (s : State) : (afterTransaction r a s).res = s.res := rfl
@[simp] theorem afterTransaction_det (r : Request) (a : Answer) (s : State) : (afterTransaction r a s).det = s.det := rfl
@[simp] theorem afterTransaction_seq (r : Request) (a : Answer) (s : State) : (afterTransaction r a s).seq = s.seq := rfl
@[simp] theorem afterTransaction_cur (r : Request) (a : Answer) (s : State) : (afterTransaction r a s).cur = s.cur := rfl
@[simp] theorem afterTransaction_cfgTmp (r : Request) (a : Answer) (s : State) : (afterTransaction r a s).cfgTmp = s.cfgTmp := rfl
@[simp] theorem afterTransaction_rdTmp (r : Request) (a : Answer) (s : State) : (afterTransaction r a s).rdTmp = s.rdTmp := rfl
@[simp] theorem afterTransaction_offers (r : Request) (a : Answer) (s : State) : (afterTransaction r a s).offers = s.offers := rfl
@[simp] theorem afterTransaction_script (r : Request) (a : Answer) (s : State) : (afterTransaction r a s).script = s.script := rfl
@[simp] theorem afterTransaction_time (r : Request) (a : Answer) (s : State) : (afterTransaction r a s).time = s.time := rfl
@[simp] theorem afterTransaction_port (r : Request) (a : Answer) (s : State) : (afterTransaction r a s).port = none := rfl

end Sys2Proof.Machine
end

