-- ==== Sys2Proof/Laws/Ops.lean ====
section
/-! SUPPORT. What each shared operation can do, said once. -/

namespace Sys2Proof.Machine

open Sys2Proof

/-- Issuing and answering the request of a step, whether it was issued before or not. -/
theorem settle_issue {r : Request} {a : Answer} {s : State} (h : portFor r s) :
    (s.issue r).settle a = afterTransaction r a s := by
  rcases h with h | h <;> simp [State.issue, State.settle, afterTransaction, h]

/-- After issuing the request of a step, exactly that request stands on the port. -/
theorem issue_port {r : Request} {s : State} (h : portFor r s) : (s.issue r).port = some r := by
  rcases h with h | h <;> simp [State.issue, h]

/-- All a transaction can do: wait, fail, or deliver (20_memory.md R56, R57). -/
theorem transact_cases (r : Request) (onFail : State → State) (onOk : Half → State → State) (s : State) :
    (s.now.answer = none ∧ s.transact r onFail onOk = s.issue r) ∨
    (∃ a, s.now.answer = some a ∧ a.fail = true ∧
      s.transact r onFail onOk = onFail ((s.issue r).settle a)) ∨
    (∃ a, s.now.answer = some a ∧ a.fail = false ∧
      s.transact r onFail onOk = onOk a.rdata ((s.issue r).settle a)) := by
  unfold State.transact
  cases h : s.now.answer with
  | none => simp
  | some a => cases hf : a.fail <;> simp [hf]

/-- A transaction without an answer waits. -/
theorem transact_wait {r : Request} {onFail : State → State} {onOk : Half → State → State} {s : State}
    (h : s.now.answer = none) : s.transact r onFail onOk = s.issue r := by
  simp [State.transact, h]

/-- A transaction that fails. -/
theorem transact_fail {r : Request} {onFail : State → State} {onOk : Half → State → State} {s : State}
    {a : Answer} (h : s.now.answer = some a) (hf : a.fail = true) (hp : portFor r s) :
    s.transact r onFail onOk = onFail (afterTransaction r a s) := by
  simp [State.transact, h, hf, settle_issue hp]

/-- A transaction that succeeds. -/
theorem transact_ok {r : Request} {onFail : State → State} {onOk : Half → State → State} {s : State}
    {a : Answer} (h : s.now.answer = some a) (hf : a.fail = false) (hp : portFor r s) :
    s.transact r onFail onOk = onOk a.rdata (afterTransaction r a s) := by
  simp [State.transact, h, hf, settle_issue hp]

/-- A codec command completes in its single step and has no other step. -/
theorem completeAtOnce_cases {f : State → State} {s t : State} (h : completeAtOnce f s = .next t) :
    s.seq = .busy 1 ∧ t = f s := by
  unfold completeAtOnce at h
  split at h
  · exact ⟨by assumption, by cases h; rfl⟩
  · cases h

/-- The three steps that DISALARMS, SDON and SDOFF share, and no other. -/
theorem readModifyWrite_cases {f : Half → Half} {s t : State} (h : readModifyWrite f s = .next t) :
    (s.seq = .busy 1 ∧ t = s.readConfig 2) ∨
    (s.seq = .busy 2 ∧ t = s.writeConfig (f s.cfgTmp) 3) ∨
    (s.seq = .busy 3 ∧ t = s.respond .ok 0) := by
  unfold readModifyWrite at h
  split at h
  · exact .inl ⟨by assumption, by cases h; rfl⟩
  · exact .inr (.inl ⟨by assumption, by cases h; rfl⟩)
  · exact .inr (.inr ⟨by assumption, by cases h; rfl⟩)
  · cases h

end Sys2Proof.Machine
end

