-- ==== Sys2Proof/Laws/Step.lean ====
section
/-! SUPPORT. What fetching and a step can do, said once. -/

namespace Sys2Proof.Machine

open Sys2Proof

@[simp] theorem endStep_next (s : State) : endStep (.next s) = .next s.tick := rfl

/-- Fetching: a reset, nothing, an illegal command word, or a command with the state it runs in. -/
theorem fetch_cases (s : State) :
    (s.now.rst = true ∧
      s.fetch = (s.arrive.resetBy s.now.cfgAddrSel s.now.cfgRes, none)) ∨
    (s.now.rst = false ∧ ∃ k, s.seq = .busy k ∧ s.fetch = s.arrive.latched) ∨
    (s.now.rst = false ∧ s.seq = .idle ∧ s.arrive.offers = [] ∧ s.fetch = (s.arrive, none)) ∨
    (s.now.rst = false ∧ s.seq = .idle ∧ ∃ p rest, s.arrive.offers = p :: rest ∧
      s.fetch = (s.arrive.accept p rest).latched) := by
  unfold State.fetch
  cases hr : s.now.rst with
  | true => simp
  | false =>
    cases hs : s.seq with
    | busy k => simp [hs]
    | idle =>
      cases ho : s.offers ++ s.now.offer.toList with
      | nil => simp [hs, ho]
      | cons p rest => simp [hs, ho]

/-- An illegal command word completes at once; any other command runs. -/
theorem latched_cases (s : State) :
    (decode s.cur = none ∧ s.latched = (s.respond .illegal 0, none)) ∨
    (∃ i, decode s.cur = some i ∧ s.latched = (s, some i)) := by
  unfold State.latched
  cases decode s.cur <;> simp

/-- All a step can do. -/
theorem step_cases (s : State) :
    (s.now.rst = true ∧
      step s = .next (s.arrive.resetBy s.now.cfgAddrSel s.now.cfgRes).tick) ∨
    (s.now.rst = false ∧ s.seq = .idle ∧ s.arrive.offers = [] ∧ step s = .next s.arrive.tick) ∨
    (s.now.rst = false ∧ ∃ t,
      ((∃ k, s.seq = .busy k ∧ t = s.arrive) ∨
       (s.seq = .idle ∧ ∃ p rest, s.arrive.offers = p :: rest ∧ t = s.arrive.accept p rest)) ∧
      ((decode t.cur = none ∧ step s = .next (t.respond .illegal 0).tick) ∨
       (∃ i, decode t.cur = some i ∧ step s = endStep (exec i t)))) := by
  unfold step
  rcases fetch_cases s with ⟨hr, hf⟩ | ⟨hr, k, hk, hf⟩ | ⟨hr, hi, ho, hf⟩ | ⟨hr, hi, p, rest, ho, hf⟩
  · exact .inl ⟨hr, by simp [hf]⟩
  · refine .inr (.inr ⟨hr, s.arrive, .inl ⟨k, hk, rfl⟩, ?_⟩)
    rcases latched_cases s.arrive with ⟨hd, hl⟩ | ⟨i, hd, hl⟩
    · exact .inl ⟨hd, by simp [hf, hl]⟩
    · exact .inr ⟨i, hd, by simp [hf, hl]⟩
  · exact .inr (.inl ⟨hr, hi, ho, by simp [hf]⟩)
  · refine .inr (.inr ⟨hr, s.arrive.accept p rest, .inr ⟨hi, p, rest, ho, rfl⟩, ?_⟩)
    rcases latched_cases (s.arrive.accept p rest) with ⟨hd, hl⟩ | ⟨i, hd, hl⟩
    · exact .inl ⟨hd, by simp [hf, hl]⟩
    · exact .inr ⟨i, hd, by simp [hf, hl]⟩

/-- No meaning is refused. -/
theorem exec_not_refused (i : Instr) (s : State) (r : Refusal) : exec i s ≠ .refused r := by
  cases i <;> simp only [exec, execBegin, execRead, execSetAlarms, execDisAlarms, execSdOn, execSdOff,
    execSetRes, execDecode, execEncThr, execEncRes, readModifyWrite, completeAtOnce] <;>
    split <;> simp

/-! ### Runs -/

/-- A run whose first step answers next goes on from there. -/
theorem run_succ {n : Nat} {s t : State} (h : step s = .next t) :
    Host.Core.run Sys2Proof.core (n + 1) s = Host.Core.run Sys2Proof.core n t := by
  have hc : Sys2Proof.core.step s = .next t := h
  simp only [Host.Core.run, hc]

@[simp] theorem run_zero (s : State) : Host.Core.run Sys2Proof.core 0 s = .next s := rfl

@[simp] theorem outcomesAgree_next (same : State → State → Prop) (s t : State) :
    outcomesAgree same (.next s) (.next t) = same s t := rfl

/-! ### The newest answered transaction -/

/-- Answering the standing request makes it the newest answered transaction. -/
theorem latestAnswered_answer {a : Answer} {l : List Event} {r : Request} (h : openRequest l = some r) :
    latestAnswered (.answer a :: l) = some (r, a.rdata) := by
  simp [latestAnswered, h]

/-- Issuing a request leaves the newest answered transaction. -/
@[simp] theorem latestAnswered_request (r : Request) (l : List Event) :
    latestAnswered (.request r :: l) = latestAnswered l := rfl

end Sys2Proof.Machine
end

