-- ==== Sys2Proof/Laws/Exec.lean ====
section
/-! SUPPORT. What `exec` can do, said once: each step is a transaction, a completion, or a DOMAIN. -/

namespace Sys2Proof.Machine

open Sys2Proof

/-- How command `i` ends when a transaction of it fails. -/
def afterFailure (i : Instr) (t : State) : State :=
  (if i = .begin then t.setDet false else t).respond .xfail 0

/-- How command `i` goes on when the transaction of step `k` delivers `d`. -/
def afterData (i : Instr) (k : Nat) (d : Half) (t : State) : State :=
  match i with
  | .begin => if k = 1 then beginIdentify d t else t.goTo (k + 1)
  | .read => (t.setRdTmp d).goTo (k + 1)
  | .setAlarms _ _ => (if k = 4 then t.setCfgTmp d else t).goTo (k + 1)
  | .disAlarms => (if k = 1 then t.setCfgTmp d else t).goTo (k + 1)
  | .sdOn => (if k = 1 then t.setCfgTmp d else t).goTo (k + 1)
  | .sdOff => (if k = 1 then t.setCfgTmp d else t).goTo (k + 1)
  | .setRes _ => t.goTo (k + 1)
  | .decode _ => t.goTo (k + 1)
  | .encThr _ => t.goTo (k + 1)
  | .encRes _ => t.goTo (k + 1)

/-- The completion step of command `i`. -/
def completion (i : Instr) (s : State) : State :=
  match i with
  | .begin => (s.setDet true).respond .ok 1
  | .read => s.respond .ok (bin32 (decodeTemperature s.rdTmp))
  | .setAlarms _ _ => s.respond .ok 0
  | .disAlarms => s.respond .ok 0
  | .sdOn => s.respond .ok 0
  | .sdOff => s.respond .ok 0
  | .setRes code => (s.setResCode (code.extractLsb' 0 2)).respond .ok 0
  | .decode raw => s.respond .ok (bin32 (raw.extractLsb' 0 13).toInt)
  | .encThr value => s.respond .ok ((encodeAlarmThreshold value).setWidth 32)
  | .encRes code => s.respond .ok ((encodeResolution code).setWidth 32)

theorem lastStep_pos (i : Instr) : 1 ≤ lastStep i := by cases i <;> simp [lastStep]

theorem lastStep_le_six (i : Instr) : lastStep i ≤ 6 := by cases i <;> simp [lastStep]

/-- Every step before the last makes a transaction, and no other step does. -/
theorem stepRequest_isSome (i : Instr) (k : Nat) (s : State) :
    (stepRequest i k s).isSome = true ↔ 1 ≤ k ∧ k < lastStep i := by
  match k with
  | 0 | 1 | 2 | 3 | 4 | 5 => cases i <;> simp [stepRequest, lastStep]
  | k + 6 =>
    have h := lastStep_le_six i
    have hn : stepRequest i (k + 6) s = none := by cases i <;> rfl
    simp [hn]; omega

/-- The transaction of a step depends on ADDR_SEL, RES and CFGTMP alone. -/
theorem stepRequest_congr (i : Instr) (k : Nat) {s t : State} (ha : s.addrSel = t.addrSel)
    (hr : s.res = t.res) (hc : s.cfgTmp = t.cfgTmp) : stepRequest i k s = stepRequest i k t := by
  unfold stepRequest
  rw [devAddr_congr ha, hr, hc]

/-- A command with an operand that is not finite ends at its first step with DOMAIN. -/
theorem exec_domain {i : Instr} {s : State} (hk : s.seq = .busy 1) (hf : operandsFinite i = false) :
    exec i s = .next (s.respond .domain 0) := by
  cases i with
  | setAlarms lower upper =>
    have hf : (finite lower && finite upper) = false := hf
    simp only [exec, execSetAlarms, hk, hf]; rfl
  | encThr value =>
    have hf : finite value = false := hf
    simp only [exec, execEncThr, completeAtOnce, hk, hf]; rfl
  | _ => cases hf

/-- The last step of a command completes it. -/
theorem exec_last {i : Instr} {s : State} (hk : s.seq = .busy (lastStep i))
    (hf : lastStep i = 1 → operandsFinite i = true) : exec i s = .next (completion i s) := by
  cases i with
  | encThr value =>
    have hf : finite value = true := hf rfl
    have hk : s.seq = .busy 1 := hk
    simp only [exec, execEncThr, completeAtOnce, hk, hf]; rfl
  | _ =>
    simp only [lastStep] at hk
    simp only [exec, execBegin, execRead, execSetAlarms, execDisAlarms, execSdOn, execSdOff, execSetRes,
      execDecode, execEncRes, readModifyWrite, completeAtOnce, hk]
    rfl

/-- Every other step of the list is its transaction. -/
theorem exec_transact {i : Instr} {k : Nat} {s : State} {r : Request} (hk : s.seq = .busy k)
    (hf : k = 1 → operandsFinite i = true) (hr : stepRequest i k s = some r) :
    exec i s = .next (s.transact r (afterFailure i) (afterData i k)) := by
  have hb := (stepRequest_isSome i k s).1 (by simp [hr])
  have hb6 := lastStep_le_six i
  obtain ⟨h1, h2⟩ := hb
  have h5 : k = 1 ∨ k = 2 ∨ k = 3 ∨ k = 4 ∨ k = 5 := by omega
  cases i with
  | setAlarms lower upper =>
    rcases h5 with rfl | rfl | rfl | rfl | rfl <;> cases hr
    · have hf : (finite lower && finite upper) = true := hf rfl
      simp only [exec, execSetAlarms, hk, hf]; rfl
    all_goals simp only [exec, execSetAlarms, hk]; rfl
  | _ =>
    simp only [lastStep] at h2
    rcases h5 with rfl | rfl | rfl | rfl | rfl <;> first
      | (exfalso; omega)
      | (cases hr
         simp only [exec, execBegin, execRead, execDisAlarms, execSdOn, execSdOff, execSetRes,
           readModifyWrite, hk]
         rfl)

/-- A meaning is asked only for steps of its list. -/
theorem exec_next_bounds {i : Instr} {s t : State} (h : exec i s = .next t) :
    ∃ k, s.seq = .busy k ∧ 1 ≤ k ∧ k ≤ lastStep i := by
  cases i <;>
    simp only [exec, execBegin, execRead, execSetAlarms, execDisAlarms, execSdOn, execSdOff, execSetRes,
      execDecode, execEncThr, execEncRes, readModifyWrite, completeAtOnce] at h <;>
    split at h <;> first
      | (rename_i hk; exact ⟨_, hk, by decide, by simp [lastStep]⟩)
      | cases h

/-- All that `exec` can do when it gives a next state: end with DOMAIN at the first step, complete at the
last, or perform the step's transaction. -/
theorem exec_cases {i : Instr} {s t : State} (h : exec i s = .next t) :
    ∃ k, s.seq = .busy k ∧ 1 ≤ k ∧ k ≤ lastStep i ∧
      ((k = 1 ∧ operandsFinite i = false ∧ t = s.respond .domain 0) ∨
       (k = lastStep i ∧ (k = 1 → operandsFinite i = true) ∧ t = completion i s) ∨
       (k < lastStep i ∧ (k = 1 → operandsFinite i = true) ∧ ∃ r, stepRequest i k s = some r ∧
        t = s.transact r (afterFailure i) (afterData i k))) := by
  obtain ⟨k, hk, h1, hl⟩ := exec_next_bounds h
  refine ⟨k, hk, h1, hl, ?_⟩
  by_cases hd : k = 1 ∧ operandsFinite i = false
  · obtain ⟨rfl, hf⟩ := hd
    rw [exec_domain hk hf] at h
    exact .inl ⟨rfl, hf, by cases h; rfl⟩
  · have hf : k = 1 → operandsFinite i = true := fun hk1 => by simpa [hk1] using hd
    rcases Nat.lt_or_eq_of_le hl with hlt | rfl
    · obtain ⟨r, hr⟩ := Option.isSome_iff_exists.1 ((stepRequest_isSome i k s).2 ⟨h1, hlt⟩)
      rw [exec_transact hk hf hr] at h
      exact .inr (.inr ⟨hlt, hf, r, hr, by cases h; rfl⟩)
    · rw [exec_last hk hf] at h
      exact .inr (.inl ⟨rfl, hf, by cases h; rfl⟩)

end Sys2Proof.Machine
end

