-- ==== Sys2Proof/Laws/PerInstr.lean ====
section
/-! SUPPORT. Facts about every command as syntax, one lemma per constructor. -/

/-- The command word of an instruction is valid (30_encoding.md R84), by both readings of R84. -/
def Sys2Proof.Laws.EncodesValid.Statement (i : Sys2Proof.Instr) : Prop :=
  Sys2Proof.validCmd (Sys2Proof.encode i).cmd = true ∧
    Sys2Proof.wellFormedCmd (Sys2Proof.encode i).cmd = true

namespace Sys2Proof.Laws.EncodesValid

open Sys2Proof

theorem begin : Statement .begin := by unfold Statement; decide
theorem read : Statement .read := by unfold Statement; decide
theorem setAlarms (lower upper : Word) : Statement (.setAlarms lower upper) := by
  show validCmd 0x0003 = true ∧ wellFormedCmd 0x0003 = true
  decide
theorem disAlarms : Statement .disAlarms := by unfold Statement; decide
theorem sdOn : Statement .sdOn := by unfold Statement; decide
theorem sdOff : Statement .sdOff := by unfold Statement; decide
theorem setRes (code : BitVec 8) : Statement (.setRes code) := by
  unfold Statement; revert code; decide
theorem decode (raw : Half) : Statement (.decode raw) := by
  show validCmd 0x0007 = true ∧ wellFormedCmd 0x0007 = true
  decide
theorem encThr (value : Word) : Statement (.encThr value) := by
  show validCmd 0x0008 = true ∧ wellFormedCmd 0x0008 = true
  decide
theorem encRes (code : BitVec 8) : Statement (.encRes code) := by
  unfold Statement; revert code; decide

end Sys2Proof.Laws.EncodesValid
end

