-- ==== Sys2Proof/Tests/Slice0.lean ====
section
/-! SUPPORT. Small tests, with expected values from spec/ (mostly 95_test_vectors.md), and for each
statement with hypotheses a witness that meets them. -/

namespace Sys2Proof.Tests

open Sys2Proof Sys2Proof.Machine

/-- The next state of an outcome. -/
def after : Host.Outcome State Fault Refusal → Option State
  | .next s => some s
  | .fault _ => none
  | .refused _ => none

/-- ADDR_SEL 0 and RES 3 (as 95_test_vectors.md has them), BUSY at step `k`, and the transport answering
`a` in this step. -/
def atStep (k : Nat) (a : Answer) : State :=
  { State.construct 0 3 with seq := .busy k, script := [answering a] }

/-- IDLE with packet `p` on offer and the transport answering `a` in this step. -/
def offering (p : Packet) (a : Answer) : State :=
  { State.construct 0 3 with offers := [p], script := [answering a] }

/-- A failed transaction. -/
def bad : Answer := { fail := true, rdata := 0 }

/-! ### Well-formed command words (30_encoding.md R84): one ill-formed word for each check -/

theorem test_wf_refuses_reserved_op : wellFormedCmd 0x000A = false := by decide
theorem test_wf_refuses_op_zero : wellFormedCmd 0x0000 = false := by decide
theorem test_wf_refuses_rsv : wellFormedCmd 0x0025 = false := by decide
theorem test_wf_refuses_unused_f : wellFormedCmd 0x0016 = false := by decide
theorem test_wf_refuses_unused_imm8 : wellFormedCmd 0x0115 = false := by decide
theorem test_wf_accepts_used_fields : wellFormedCmd 0xFF06 = true ∧ wellFormedCmd 0x0015 = true := by
  decide

/-! ### Decoding, word by word (30_encoding.md R80, R83: IMM8[15:8], RSV[7:5], F[4], OP[3:0]) -/

theorem test_decode_begin : decode ⟨0b00000000_000_0_0001, 5, 7⟩ = some .begin := by decide
theorem test_decode_read : decode ⟨0b00000000_000_0_0010, 5, 7⟩ = some .read := by decide
theorem test_decode_setAlarms : decode ⟨0b00000000_000_0_0011, 5, 7⟩ = some (.setAlarms 5 7) := by
  decide
theorem test_decode_disAlarms : decode ⟨0b00000000_000_0_0100, 5, 7⟩ = some .disAlarms := by decide
theorem test_decode_sdOn : decode ⟨0b00000000_000_0_0101, 5, 7⟩ = some .sdOn := by decide
theorem test_decode_sdOff : decode ⟨0b00000000_000_1_0101, 5, 7⟩ = some .sdOff := by decide
theorem test_decode_setRes : decode ⟨0b00000111_000_0_0110, 5, 7⟩ = some (.setRes 7) := by decide
theorem test_decode_decode : decode ⟨0b00000000_000_0_0111, 0xABCD1137, 7⟩ = some (.decode 0x1137) := by
  decide
theorem test_decode_encThr : decode ⟨0b00000000_000_0_1000, 5, 7⟩ = some (.encThr 5) := by decide
theorem test_decode_encRes : decode ⟨0b00000011_000_0_1001, 5, 7⟩ = some (.encRes 3) := by decide
theorem test_decode_illegal : decode ⟨0x000F, 0, 0⟩ = none ∧ decode ⟨0x0087, 0, 0⟩ = none := by decide
theorem test_encode_setAlarms :
    encode (.setAlarms 0xC1200000 0x41F00000) = ⟨0x0003, 0xC1200000, 0x41F00000⟩ := by decide
theorem test_table_word : decodeTableWord 16 0x0706 = some (.setRes 7) := by decide

/-! ### Codec (95_test_vectors.md; 93_implementation_defined.md I3) -/

theorem test_bin32_ends : bin32 4095 = 0x437FF000 ∧ bin32 (-4096) = 0xC3800000 ∧ bin32 0 = 0 := by
  decide
theorem test_decodeTemperature_w2 : bin32 (decodeTemperature 0xF137) = 0xC36C9000 := by decide
theorem test_encode_floor : encodeAlarmThreshold 0xBCF5C28F = 0x1FFF := by decide
theorem test_encode_trunc_outside : encodeAlarmThreshold 0xC39603D7 = 0x1D40 := by decide
theorem test_encode_huge : encodeAlarmThreshold 0xF149F2CA = 0x1000 := by decide
theorem test_encode_rounded_builds : encodeThresholdWith .binary32 0xC1200001 = 0x1F60 ∧
    encodeThresholdWith .binary64 0xC1200001 = 0x1F5F ∧
    encodeThresholdWith .binary64 0xA1800000 = 0x1000 := by decide
theorem test_literals : (Literal.decimal true 1599 2).word = 0xC17FD70A ∧
    (Literal.decimal false 3 2).word = 0x3CF5C28F ∧
    (Literal.decimal false (10 ^ 30) 0).word = 0x7149F2CA := by decide
/-- The sign of a negative number that rounds to zero is kept (log 26). -/
theorem test_literal_negative_tiny : (Literal.decimal true 1 50).word = 0x80000000 ∧
    (Literal.decimal true 0 0).word = 0x80000000 := by decide
theorem test_status_codes : [Status.ok, .xfail, .domain, .illegal].map statusCode = [0, 1, 2, 3] := by
  decide

/-! ### Commands, one step each (95_test_vectors.md) -/

/-- Vector B3. -/
theorem test_begin_mismatch : (after (exec .begin (atStep 1 (good 0x1054)))).map
    (fun s => (s.seq, s.det, s.trace)) = some (.idle, false, [.response ⟨.ok, 0⟩,
      .answer (good 0x1054), .request (.read 0x18 0x06)]) := by decide
/-- Vector B5, in a machine that was Ready. -/
theorem test_begin_fail : (after (exec .begin { atStep 2 bad with det := true })).map
    (fun s => (s.det, s.trace)) = some (false, [.response ⟨.xfail, 0⟩, .answer bad,
      .request (.write 0x18 0x08 0x0300)]) := by decide
/-- Vector RD2. -/
theorem test_read_negative : (after (exec .read { atStep 2 bad with rdTmp := 0x1E70 })).map State.trace
    = some [.response ⟨.ok, 0xC1C80000⟩] := by decide
/-- Vector S2, the write back. -/
theorem test_setAlarms_writes_back : (after (exec (.setAlarms 0xC1200000 0x41F00000)
    { atStep 5 (good 0) with cfgTmp := 0xFEF7 })).map State.trace
    = some [.answer (good 0), .request (.write 0x18 0x01 0xFEFF)] := by decide
/-- Vector S2, the lower threshold. -/
theorem test_setAlarms_lower : (after (exec (.setAlarms 0xC1200000 0x41F00000) (atStep 3 (good 0)))).map
    State.trace = some [.answer (good 0), .request (.write 0x18 0x03 0x1F60)] := by decide
/-- Vector DA2. -/
theorem test_disAlarms_hazard : (after (exec .disAlarms { atStep 2 (good 0) with cfgTmp := 0x0100 })).map
    State.trace = some [.answer (good 0), .request (.write 0x18 0x01 0x0108)] := by decide
/-- Vector ON3. -/
theorem test_sdOn_keeps_others : (after (exec .sdOn { atStep 2 (good 0) with cfgTmp := 0xFFFF })).map
    State.trace = some [.answer (good 0), .request (.write 0x18 0x01 0xFEFF)] := by decide
/-- Vector OFF2. -/
theorem test_sdOff_idempotent : (after (exec .sdOff { atStep 2 (good 0) with cfgTmp := 0x0108 })).map
    State.trace = some [.answer (good 0), .request (.write 0x18 0x01 0x0108)] := by decide
/-- Program P5b, line 1: RES stays 3. -/
theorem test_setRes_fail : (after (exec (.setRes 2) (atStep 1 bad))).map (fun s => (s.res, s.trace))
    = some (3, [.response ⟨.xfail, 0⟩, .answer bad, .request (.write 0x18 0x08 0x0200)]) := by decide
/-- E-RES, code 0xFE. -/
theorem test_setRes_masks : (after (exec (.setRes 0xFE) (atStep 2 bad))).map State.res = some 2 := by
  decide
/-- DECODE with A = 0xABCD1137, from the packet. -/
theorem test_decode_step : (after (step (offering ⟨0x0007, 0xABCD1137, 0⟩ bad))).map State.trace
    = some [.response ⟨.ok, 0xC36C9000⟩, .accept ⟨0x0007, 0xABCD1137, 0⟩] := by decide
/-- ENCTHR with NaN. -/
theorem test_encThr_nan : (after (exec (.encThr 0x7F800001) (atStep 1 bad))).map State.trace
    = some [.response ⟨.domain, 0⟩] := by decide
/-- ENCRES #0xFE, from the packet. -/
theorem test_encRes_step : (after (step (offering ⟨0xFE09, 0, 0⟩ bad))).map State.trace
    = some [.response ⟨.ok, 0x0200⟩, .accept ⟨0xFE09, 0, 0⟩] := by decide
/-- The first step after reset runs the offered command, here BEGIN, which waits for its first answer. -/
theorem test_first_step_after_reset : (after (step (State.reset.withFetchWord 16 0x0001))).map
    (fun s => (s.seq, s.port)) = some (.busy 1, some (.read 0x18 0x06)) := by decide
/-- A reset in the middle of a command (70_reset_and_hazards.md R191). -/
theorem test_reset_abandons : (after (step { atStep 2 bad with
    script := [{ Pins.quiet with rst := true, cfgAddrSel := 5, cfgRes := 1 }] })).map
    (fun s => (s.addrSel, s.res, s.seq, s.trace)) = some (5, 1, .idle, [.reset]) := by decide

/-! ### Witnesses: for each statement with hypotheses, a state and operands that meet them -/

theorem witness_ValidWordsAreTheRowsWords : ∃ r ∈ opcodeTable, r.covers 0x0706 = true := by decide
theorem witness_DecodeAndEncodeAgree : decode ⟨0x0003, 1, 2⟩ = some (.setAlarms 1 2) ∧
    decode ⟨0x0008, 1, 2⟩ = some (.encThr 1) ∧ decode ⟨0x0007, 1, 2⟩ = some (.decode 1) := by decide
theorem witness_UnnamedOperandBitsIgnored : (⟨7, 0xABCD1137, 1⟩ : Packet) ≠ ⟨7, 0x1137, 2⟩ ∧
    (0xABCD1137 : Word).setWidth 16 = (0x1137 : Word).setWidth 16 := by decide
theorem witness_Bin32HoldsSixteenthsExactly : -4096 ≤ (-4096 : Int) ∧ (-4096 : Int) ≤ 4095 ∧
    -4096 ≤ (4095 : Int) ∧ (4095 : Int) ≤ 4095 := by decide
theorem witness_DecoderIgnoresUpperBitsAndResolution :
    (0x2000 : Half).extractLsb' 0 13 = (0x0000 : Half).extractLsb' 0 13 ∧
    (after (exec .read (atStep 2 bad))).isSome = true ∧
    (after (exec .read { atStep 2 bad with res := 0 })).isSome = true := by decide
theorem witness_EncoderIsTheRationalFormula : finite 0xFF7FFFFF = true ∧ finite 0x00000001 = true := by
  decide
/-- -256.0 and 255.9375, the ends of the range. -/
theorem val_ends : val 0xC3800000 = -256 ∧ val 0x437FF000 = 4095 / 16 := by
  have e1 : expField 0xC3800000 = 135 := by decide
  have f1 : fracField 0xC3800000 = 0 := by decide
  have s1 : signBit 0xC3800000 = true := by decide
  have e2 : expField 0x437FF000 = 134 := by decide
  have f2 : fracField 0x437FF000 = 0x7FF000 := by decide
  have s2 : signBit 0x437FF000 = false := by decide
  constructor <;> unfold val
  · rw [e1, f1, s1, if_pos rfl, if_neg (by decide), show (0 : BitVec 23).toNat = 0 from rfl,
      show (135 : BitVec 8).toNat = 135 from rfl]
    norm_num [zpow_neg]
  · rw [e2, f2, s2, if_neg (by decide), if_neg (by decide),
      show (0x7FF000 : BitVec 23).toNat = 0x7FF000 from rfl, show (134 : BitVec 8).toNat = 134 from rfl]
    norm_num [zpow_neg]
theorem witness_EncoderIsFloorInRange :
    (finite 0xC3800000 = true ∧ -256 ≤ val 0xC3800000 ∧ val 0xC3800000 < 256) ∧
    (finite 0x437FF000 = true ∧ -256 ≤ val 0x437FF000 ∧ val 0x437FF000 < 256) := by
  rw [val_ends.1, val_ends.2]
  exact ⟨⟨by decide, by norm_num, by norm_num⟩, ⟨by decide, by norm_num, by norm_num⟩⟩
theorem witness_ThresholdRoundTrip :
    finite 0xC3800000 = true ∧ -256 ≤ val 0xC3800000 ∧ val 0xC3800000 < 256 :=
  witness_EncoderIsFloorInRange.1
theorem witness_ZerosAndSubnormalsEncodeExactly :
    (expField 0x007FFFFF = 0 ∧ fracField 0x007FFFFF ≠ 0 ∧ signBit 0x007FFFFF = false) ∧
    (expField 0x80000001 = 0 ∧ fracField 0x80000001 ≠ 0 ∧ signBit 0x80000001 = true) := by decide

/-- SETRES at its first step, its request standing, and the transport silent or answering. -/
def waiting (pins : List Pins) : State :=
  { State.construct 0 3 with
    seq := .busy 1, cur := ⟨0x0206, 0, 0⟩, port := some (.write 0x18 0x08 0x0200), script := pins }

/-- Each step of each sensor command, with nothing on the port, answered with success. -/
theorem witness_steps_answered : ∀ k ∈ [1, 2, 3, 4, 5, 6], (atStep k (good 0x0054)).seq = .busy k ∧
    (atStep k (good 0x0054)).now.answer = some (good 0x0054) ∧ (atStep k (good 0x0054)).port = none := by
  decide
theorem witness_BeginStepsComplete (k : Nat) (h : k ∈ [1, 2, 3]) :
    (atStep k (good 0x0054)).now.answer = some (good 0x0054) ∧ (atStep k (good 0x0054)).seq = .busy k ∧
    ∀ r, portFor r (atStep k (good 0x0054)) :=
  have w := witness_steps_answered k (by revert h; simp; omega)
  ⟨w.2.1, w.1, fun _ => .inl w.2.2⟩
/-- The completion step on a silent transport and on one that answers with a failure. -/
theorem witness_BeginStepsComplete_last : (waiting [.quiet]).now.answer = none ∧
    ({ waiting [.quiet] with seq := .busy 4 } : State).seq = .busy 4 ∧
    (atStep 4 bad).now.answer = some bad ∧ (atStep 4 bad).seq = .busy 4 := by decide
theorem witness_ReadStepsComplete (k : Nat) (h : k ∈ [1, 2]) :
    (atStep k (good 0x0054)).seq = .busy k ∧ (atStep k (good 0x0054)).now.answer = some (good 0x0054) ∧
    ∀ r, portFor r (atStep k (good 0x0054)) :=
  have w := witness_steps_answered k (by revert h; simp; omega)
  ⟨w.1, w.2.1, fun _ => .inl w.2.2⟩
theorem witness_SetAlarmsStepsComplete (k : Nat) (h : k ∈ [1, 2, 3, 4, 5]) :
    finite 0xC1200000 = true ∧ finite 0x41F00000 = true ∧ (atStep k (good 0x0054)).seq = .busy k ∧
    (atStep k (good 0x0054)).now.answer = some (good 0x0054) ∧
    ∀ r, portFor r (atStep k (good 0x0054)) :=
  have w := witness_steps_answered k (by revert h; simp; omega)
  ⟨by decide, by decide, w.1, w.2.1, fun _ => .inl w.2.2⟩
/-- The completion step on a silent transport. -/
theorem witness_SetAlarmsStepsComplete_last :
    ({ waiting [.quiet] with seq := .busy 6 } : State).seq = .busy 6 ∧
    ({ waiting [.quiet] with seq := .busy 6 } : State).now.answer = none := by decide
theorem witness_FlagCommandStepsComplete (k : Nat) :
    (atStep k (good 0x0108)).seq = .busy k ∧ (atStep k (good 0x0108)).now.answer = some (good 0x0108) ∧
    ∀ r, portFor r (atStep k (good 0x0108)) :=
  ⟨rfl, rfl, fun _ => .inl rfl⟩
theorem witness_SetResStepsComplete (k : Nat) :
    (atStep k (good 0)).seq = .busy k ∧ (atStep k (good 0)).now.answer = some (good 0) ∧
    ∀ r, portFor r (atStep k (good 0)) :=
  ⟨rfl, rfl, fun _ => .inl rfl⟩
theorem witness_CodecCommandsComplete : (atStep 1 bad).seq = .busy 1 ∧ finite 0x41200000 = true := by
  decide
theorem witness_IllegalWordsCompleteWithIllegal : (offering ⟨0x0101, 1, 2⟩ bad).now.rst = false ∧
    (offering ⟨0x0101, 1, 2⟩ bad).seq = .idle ∧ validCmd 0x0101 = false ∧
    (offering ⟨0x0101, 1, 2⟩ bad).offers ++ (offering ⟨0x0101, 1, 2⟩ bad).now.offer.toList
      = ⟨0x0101, 1, 2⟩ :: [] := by decide
theorem witness_NonFiniteOperandsCompleteWithDomain :
    operandsFinite (.setAlarms 0x3F800000 0x7F800000) = false ∧ operandsFinite (.encThr 0x7FC00000) = false ∧
    (atStep 1 bad).seq = .busy 1 := by decide
theorem witness_DomainOnlyForNonFiniteOperands :
    ∃ t, exec (.encThr 0x7FC00000) (atStep 1 bad) = .next t ∧ t.trace = .response ⟨.domain, 0⟩ :: [] ∧
      t.trace ≠ (atStep 1 bad).trace := ⟨_, rfl, by decide, by decide⟩
theorem witness_FailedTransactionEndsCommand : (atStep 5 bad).seq = .busy 5 ∧
    operandsFinite (.setAlarms 0 0) = true ∧
    stepRequest (.setAlarms 0 0) 5 (atStep 5 bad) = some (.write 0x18 0x01 0x0008) ∧
    (atStep 5 bad).port = none ∧ (atStep 5 bad).now.answer = some bad ∧ bad.fail = true := by decide
/-- The three kinds of packet the statement distinguishes. -/
theorem witness_ErrorPriority : (∀ p ∈ [(⟨0x000A, 0x7FC00000, 0⟩ : Packet), ⟨0x0003, 0x7FC00000, 0⟩, ⟨0x0006, 0, 0⟩],
    (offering p bad).now.rst = false ∧ (offering p bad).seq = .idle ∧ (offering p bad).port = none ∧
    (offering p bad).offers ++ (offering p bad).now.offer.toList = p :: [] ∧
    (offering p bad).now.answer = some bad) ∧
    decode ⟨0x000A, 0x7FC00000, 0⟩ = none ∧
    decode ⟨0x0003, 0x7FC00000, 0⟩ = some (.setAlarms 0x7FC00000 0) ∧
    operandsFinite (.setAlarms 0x7FC00000 0) = false ∧
    decode ⟨0x0006, 0, 0⟩ = some (.setRes 0) ∧
    (stepRequest (.setRes 0) 1 (offering ⟨0x0006, 0, 0⟩ bad)).isSome = true := by decide

theorem witness_UnansweredTransactionWaits : (waiting [.quiet]).seq = .busy 1 ∧
    stepRequest (.setRes 2) 1 (waiting [.quiet]) = some (.write 0x18 0x08 0x0200) ∧
    (waiting [.quiet]).port = some (.write 0x18 0x08 0x0200) ∧ (waiting [.quiet]).now.answer = none := by
  decide
theorem waiting_legal (pins : List Pins) : LegalBusy (.setRes 2) 1 (waiting pins) := by
  simp [LegalBusy, waiting, lastStep, operandsFinite, stepRequest, State.devAddr, State.construct,
    Config.addrBase]
  decide
theorem witness_SilentTransportHangs : decode (waiting [.quiet, .quiet]).cur = some (.setRes 2) ∧
    (waiting [.quiet, .quiet]).seq = .busy 1 ∧ LegalBusy (.setRes 2) 1 (waiting [.quiet, .quiet]) ∧
    1 < lastStep (.setRes 2) ∧ 2 ≤ (waiting [.quiet, .quiet]).script.length ∧
    ∀ p ∈ (waiting [.quiet, .quiet]).script, p.rst = false ∧ p.answer = none :=
  ⟨by decide, rfl, waiting_legal _, by decide, by decide, by decide⟩
/-- Two silent steps before the one answer that SETRES needs, and a silent step for its completion. -/
theorem witness_AnsweredCommandCompletes :
    decode (waiting ([.quiet, .quiet, answering (good 0)] ++ .quiet :: [])).cur = some (.setRes 2) ∧
    (waiting ([.quiet, .quiet, answering (good 0)] ++ .quiet :: [])).seq = .busy 1 ∧
    LegalBusy (.setRes 2) 1 (waiting ([.quiet, .quiet, answering (good 0)] ++ .quiet :: [])) ∧
    (∀ q ∈ [Pins.quiet, .quiet, answering (good 0)], q.rst = false) ∧ Pins.quiet.rst = false ∧
    lastStep (.setRes 2) ≤ 1 + answerCount [.quiet, .quiet, answering (good 0)] :=
  ⟨by decide, rfl, waiting_legal _, by decide, rfl, by decide⟩

/-- IDLE with packet `p` on offer and six steps' answers `good id`. -/
def scripted (p : Packet) (id : Half) : State :=
  { State.construct 0 3 with offers := [p], script := List.replicate 6 (answering (good id)) }

/-- The count of BEGIN where the manufacturer ID matches. -/
theorem witness_TransactionCounts :
    (scripted ⟨0x0001, 0, 0⟩ 0x0054).seq = .idle ∧ (scripted ⟨0x0001, 0, 0⟩ 0x0054).port = none ∧
    (scripted ⟨0x0001, 0, 0⟩ 0x0054).offers = ⟨0x0001, 0, 0⟩ :: [] ∧
    decode ⟨0x0001, 0, 0⟩ = some .begin ∧ operandsFinite .begin = true ∧
    lastStep .begin ≤ (scripted ⟨0x0001, 0, 0⟩ 0x0054).script.length ∧
    (∀ q ∈ (scripted ⟨0x0001, 0, 0⟩ 0x0054).script, q = answering (good 0x0054)) ∧
    transactionCount 0x0054 .begin = 3 :=
  ⟨rfl, rfl, rfl, by decide, rfl, by decide, fun _ h => List.eq_of_mem_replicate h, by decide⟩
/-- The count of BEGIN where it does not. -/
theorem witness_TransactionCounts_mismatch :
    (scripted ⟨0x0001, 0, 0⟩ 0x0055).seq = .idle ∧ (scripted ⟨0x0001, 0, 0⟩ 0x0055).port = none ∧
    (scripted ⟨0x0001, 0, 0⟩ 0x0055).offers = ⟨0x0001, 0, 0⟩ :: [] ∧
    decode ⟨0x0001, 0, 0⟩ = some .begin ∧ operandsFinite .begin = true ∧
    lastStep .begin ≤ (scripted ⟨0x0001, 0, 0⟩ 0x0055).script.length ∧
    (∀ q ∈ (scripted ⟨0x0001, 0, 0⟩ 0x0055).script, q = answering (good 0x0055)) ∧
    transactionCount 0x0055 .begin = 1 :=
  ⟨rfl, rfl, rfl, by decide, rfl, by decide, fun _ h => List.eq_of_mem_replicate h, by decide⟩
theorem witness_ThresholdMultiplexer : finite 0x00000000 = true ∧ finite 0x41200000 = true ∧
    (scripted (encode (.setAlarms 0x00000000 0x41200000)) 0).seq = .idle ∧
    (scripted (encode (.setAlarms 0x00000000 0x41200000)) 0).port = none ∧
    (scripted (encode (.setAlarms 0x00000000 0x41200000)) 0).offers
      = encode (.setAlarms 0x00000000 0x41200000) :: [] ∧
    (scripted (encode (.setAlarms 0x00000000 0x41200000)) 0).script
      = answering (good 0) :: answering (good 0) :: answering (good 0) :: answering (good 0) ::
        answering (good 0) :: answering (good 0) :: [] ∧
    (answering (good 0)).rst = false := by decide
/-- The second clause of the multiplexer statement: the step that writes CRITICAL_TEMP. -/
theorem witness_ThresholdMultiplexer_write :
    ∃ t, exec (.setAlarms 0x00000000 0x41200000) (atStep 2 (good 0)) = .next t ∧
      t.trace = [.answer (good 0), .request (.write 0x18 0x04 0x00A0)] ++ (atStep 2 (good 0)).trace :=
  ⟨_, rfl, by decide⟩
theorem witness_StepRunsTheDecodedCommand :
    ((offering ⟨0x0002, 0, 0⟩ bad).now.rst = false ∧ (offering ⟨0x0002, 0, 0⟩ bad).seq = .idle ∧
      (offering ⟨0x0002, 0, 0⟩ bad).offers ++ (offering ⟨0x0002, 0, 0⟩ bad).now.offer.toList
        = ⟨0x0002, 0, 0⟩ :: [] ∧ decode ⟨0x0002, 0, 0⟩ = some .read) ∧
    ((waiting [.quiet]).now.rst = false ∧ (waiting [.quiet]).seq = .busy 1 ∧
      decode (waiting [.quiet]).cur = some (.setRes 2)) := by decide
theorem witness_ResetLoadsConfiguration :
    (waiting [{ Pins.quiet with rst := true, cfgAddrSel := 7 }]).now.rst = true ∧
    ∃ t, (waiting [.quiet]).now.rst = false ∧ step (waiting [.quiet]) = .next t := ⟨by decide, _, by decide, rfl⟩
theorem witness_IdleWithoutOfferWaits (s : State) (h : s = { State.construct 0 3 with script := [.quiet] }) :
    s.now.rst = false ∧ s.seq = .idle ∧ s.offers = [] ∧ s.now.offer = none := by subst h; decide
theorem witness_OffersAreHeldUntilTaken : (after (step (waiting [.quiet]))).isSome = true ∧
    (after (step (offering ⟨0x0002, 0, 0⟩ bad))).map State.offers = some [] := by decide
theorem witness_SequencerMovesOneStep : (atStep 1 (good 0)).seq = .busy 1 ∧
    (after (exec .disAlarms (atStep 1 (good 0)))).map State.seq = some (.busy 2) := by decide
theorem witness_CommandFrame : (after (exec .begin (atStep 4 bad))).map State.det = some true ∧
    (after (exec (.setRes 2) (atStep 2 bad))).map State.res = some 2 ∧
    (after (exec (.setAlarms 0 0) (atStep 4 (good 5)))).map State.cfgTmp = some 5 ∧
    (after (exec .read (atStep 1 (good 5)))).map State.rdTmp = some 5 := by decide
theorem witness_ControlStateWriters : (atStep 4 bad).now.rst = false ∧
    (after (step { atStep 4 bad with cur := ⟨0x0001, 0, 0⟩ })).map State.det = some true ∧
    (after (step { atStep 2 bad with cur := ⟨0x0206, 0, 0⟩ })).map State.res = some 2 := by decide
theorem witness_LatchesUnobservableWhileIdle : (offering ⟨0x0004, 0, 0⟩ (good 0)).seq = .idle ∧
    sameButLatches { offering ⟨0x0004, 0, 0⟩ (good 0) with cfgTmp := 9 } (offering ⟨0x0004, 0, 0⟩ (good 0)) :=
  ⟨rfl, rfl⟩

/-- A busy state that meets the whole invariant: SETRES waiting for its first answer. -/
def waitingRecorded : State :=
  { waiting [answering (good 0)] with
    trace := [.request (.write 0x18 0x08 0x0200), .accept ⟨0x0206, 0, 0⟩] }

theorem witness_inv_busy : Inv waitingRecorded := by
  refine ⟨⟨.setRes 2, by decide, ?_⟩, ?_, ?_, ?_⟩
  · exact ⟨by decide, by decide, by decide, .inl (by decide), by decide⟩
  · simp [RecordAgrees, waitingRecorded, waiting, Orderly, mayFollow, openCommand, openRequest, justFailed]
  · intro r h
    have hr : r = .write 0x18 0x08 0x0200 := by simpa [waitingRecorded, waiting] using h
    subst hr; decide
  · intro k i hk hd
    have hi : i = .setRes 2 := by
      have hc : decode waitingRecorded.cur = some (.setRes 2) := by decide
      rw [hc] at hd; exact (Option.some.inj hd).symm
    subst hi; simp [writesBack]
theorem witness_LegalSequencerKept : LegalSeq waitingRecorded ∧ (after (step waitingRecorded)).isSome = true :=
  ⟨witness_inv_busy.1, by decide⟩
theorem witness_OrderlyRecordKept : RecordAgrees waitingRecorded ∧ LegalSeq waitingRecorded :=
  ⟨witness_inv_busy.2.1, witness_inv_busy.1⟩
theorem witness_OnlyAllowedRequestsKept : OnlyAllowed waitingRecorded.trace := witness_inv_busy.2.2.1
/-- DISALARMS at its write back, CONFIG having read as 0x0108: both clauses of `LatchesHoldData` have such a
state, this one and the next. -/
def writingBack : State :=
  { State.construct 0 3 with
    seq := .busy 2, cur := ⟨0x0004, 0, 0⟩, cfgTmp := 0x0108, script := [answering (good 0)],
    trace := [.answer (good 0x0108), .request (.read 0x18 0x01), .accept ⟨0x0004, 0, 0⟩] }
/-- READ at its completion, TEMPERATURE having read as 0x0190. -/
def decodingRead : State :=
  { State.construct 0 3 with
    seq := .busy 2, cur := ⟨0x0002, 0, 0⟩, rdTmp := 0x0190, script := [.quiet],
    trace := [.answer (good 0x0190), .request (.read 0x18 0x05), .accept ⟨0x0002, 0, 0⟩] }

theorem witness_LatchedDataKept : Inv writingBack ∧ writesBack .disAlarms 2 = true := by
  refine ⟨⟨⟨.disAlarms, by decide, ?_⟩, ?_, ?_, ?_⟩, rfl⟩
  · exact ⟨by decide, by decide, by decide, .inr ⟨rfl, by decide⟩, by decide⟩
  · simp [RecordAgrees, writingBack, State.construct, Orderly, mayFollow, openCommand, openRequest,
      justFailed, good]
  · intro r h
    have hr : r = .read 0x18 0x01 := by simpa [writingBack] using h
    subst hr; decide
  · intro k i hk hd
    have hi : i = .disAlarms := by
      have hc : decode writingBack.cur = some .disAlarms := by decide
      rw [hc] at hd; exact (Option.some.inj hd).symm
    subst hi
    refine ⟨fun h => ?_, fun h => (by cases h)⟩
    obtain rfl : 2 = k := by simpa [writingBack] using hk
    decide
theorem witness_LatchedDataKept_read : Inv decodingRead ∧ decode decodingRead.cur = some .read := by
  refine ⟨⟨⟨.read, by decide, ?_⟩, ?_, ?_, ?_⟩, by decide⟩
  · exact ⟨by decide, by decide, by decide, .inr ⟨rfl, by decide⟩, by decide⟩
  · simp [RecordAgrees, decodingRead, State.construct, Orderly, mayFollow, openCommand, openRequest,
      justFailed, good]
  · intro r h
    have hr : r = .read 0x18 0x05 := by simpa [decodingRead] using h
    subst hr; decide
  · intro k i hk hd
    have hi : i = .read := by
      have hc : decode decodingRead.cur = some .read := by decide
      rw [hc] at hd; exact (Option.some.inj hd).symm
    subst hi; exact ⟨fun h => (by cases h), fun _ _ => by decide⟩
theorem witness_EveryRunIsSafe : Inv waitingRecorded := witness_inv_busy

/-- A bench between two commands. -/
def bench (cfg : Half) : Bench :=
  { tcfm := State.construct 0 3
    sensor := { config := cfg, alertUpper := 0, alertLower := 0, critical := 0, resolution := 0,
                temps := [], mfgId := 0x0054, fails := [] } }

theorem witness_RepeatedFlagCommands : quietBench (bench 0x0108) ∧ finite 0xC1200000 = true ∧
    finite 0x41F00000 = true := ⟨⟨rfl, rfl, rfl, rfl⟩, by decide, by decide⟩
theorem witness_BeginClearsConfig : quietBench (bench 0xFFFF) ∧ (bench 0xFFFF).sensor.mfgId = 0x0054 :=
  ⟨⟨rfl, rfl, rfl, rfl⟩, rfl⟩
theorem witness_PartialSetAlarms : quietBench (bench 0) ∧ finite 0x41A00000 = true ∧
    finite 0x41CC0000 = true ∧ (0 < 5 ∧ 4 < 5) := ⟨⟨rfl, rfl, rfl, rfl⟩, by decide, by decide, by decide⟩

end Sys2Proof.Tests
end

/-! PROOF. The device address (20_memory.md R55), and the requests that every step leaves in the record
(R59, R63, R67). -/

namespace Sys2Proof.Machine

open Sys2Proof

/-! ### The device address -/

/-- ADDR_BASE has bits 2:0 clear, so the OR of R55 is a concatenation. -/
theorem devAddr_eq_append (s : State) : s.devAddr = (0b0011 : BitVec 4) ++ s.addrSel := by
  unfold State.devAddr
  generalize s.addrSel = a
  revert a
  decide

theorem devAddr_toNat (s : State) : s.devAddr.toNat = 0x18 + s.addrSel.toNat := by
  rw [devAddr_eq_append]
  generalize s.addrSel = a
  revert a
  decide

/-- Bits 6:3 of the device address are 0b0011, whatever ADDR_SEL is. -/
theorem devAddr_div_eight (s : State) : s.devAddr.toNat / 8 = 3 := by
  have ha := s.addrSel.isLt
  rw [devAddr_toNat]
  omega

/-- Settles O16: the concatenation and the number of a device address give the form, the bounds and both
ends. -/
theorem deviceAddressFromSelector : Obligations.DeviceAddressFromSelector := by
  intro s
  have hn := devAddr_toNat s
  have ha := s.addrSel.isLt
  refine ⟨rfl, devAddr_eq_append s, by omega, by omega, fun h => ?_, fun h => ?_⟩
  · rw [devAddr_eq_append, h]; rfl
  · rw [devAddr_eq_append, h]; rfl

/-! ### Payload shapes -/

/-- A payload below 2^13 has bits 15:13 zero. -/
theorem and_E000_eq_zero {v : Half} (h : v.toNat < 2 ^ 13) : v &&& 0xE000 = 0 := by
  have hmask : ∀ i, i < 13 → (0xE000 : Half).getLsbD i = false := by decide
  have hhigh : ∀ i, 13 ≤ i → v.getLsbD i = false := fun i hi =>
    Nat.testBit_lt_two_pow (h.trans_le (Nat.pow_le_pow_right (by decide) hi))
  apply BitVec.eq_of_getLsbD_eq
  intro i _
  rw [BitVec.getLsbD_and, show (0 : Half).getLsbD i = false from BitVec.getLsbD_zero]
  rcases Nat.lt_or_ge i 13 with hi | hi
  · rw [hmask i hi, Bool.and_false]
  · rw [hhigh i hi, Bool.false_and]

/-- Whatever the rounding, the encoder fills bits 12:0 alone: a residue modulo 8192 and the sign bit 12
(40_codec.md R110). -/
theorem encodeThresholdWith_lt (round : Config.EncRound) (w : Word) :
    (encodeThresholdWith round w).toNat < 2 ^ 13 := by
  unfold encodeThresholdWith
  rw [BitVec.toNat_or]
  refine Nat.or_lt_two_pow ?_ ?_
  · rw [BitVec.toNat_ofInt]
    omega
  · split <;> decide

theorem encodeAlarmThreshold_and_E000 (w : Word) : encodeAlarmThreshold w &&& 0xE000 = 0 :=
  and_E000_eq_zero (encodeThresholdWith_lt Config.encRound w)

theorem encodeResolution_and_FCFF (code : BitVec 8) : encodeResolution code &&& 0xFCFF = 0 := by
  revert code
  decide

/-! ### The requests of the step lists -/

@[simp] theorem requestAllowed_read_devAddr (s : State) (p : Ptr) :
    requestAllowed (.read s.devAddr p) = readsPtr p := by
  simp [requestAllowed, devAddr_div_eight]

@[simp] theorem requestAllowed_write_devAddr (s : State) (p : Ptr) (v : Half) :
    requestAllowed (.write s.devAddr p v) = (writesPtr p && payloadShape p v) := by
  simp [requestAllowed, devAddr_div_eight]

/-- CONFIG takes any payload. -/
theorem write_config_allowed (s : State) (v : Half) : requestAllowed (.write s.devAddr 0x01 v) = true := by
  rw [requestAllowed_write_devAddr]; rfl

theorem write_threshold_allowed (s : State) {p : Ptr} (hp : p = 0x02 ∨ p = 0x03 ∨ p = 0x04) (w : Word) :
    requestAllowed (.write s.devAddr p (encodeAlarmThreshold w)) = true := by
  have hw := beq_iff_eq.2 (encodeAlarmThreshold_and_E000 w)
  rw [requestAllowed_write_devAddr]
  rcases hp with rfl | rfl | rfl <;> exact hw

theorem write_resolution_allowed (s : State) (code : BitVec 8) :
    requestAllowed (.write s.devAddr 0x08 (encodeResolution code)) = true := by
  rw [requestAllowed_write_devAddr]
  exact beq_iff_eq.2 (encodeResolution_and_FCFF code)

/-- Every transaction of the step lists is one that 20_memory.md allows. -/
theorem stepRequest_allowed {i : Instr} {k : Nat} {s : State} {r : Request}
    (h : stepRequest i k s = some r) : requestAllowed r = true := by
  cases i <;> simp only [stepRequest] at h
  case begin =>
    split at h <;> cases h
    · exact requestAllowed_read_devAddr s _
    · exact write_resolution_allowed s _
    · exact write_config_allowed s _
  case read =>
    split at h <;> cases h
    exact requestAllowed_read_devAddr s _
  case setAlarms lower upper =>
    split at h <;> cases h
    · exact write_threshold_allowed s (by decide) upper
    · exact write_threshold_allowed s (by decide) upper
    · exact write_threshold_allowed s (by decide) lower
    · exact requestAllowed_read_devAddr s _
    · exact write_config_allowed s _
  case setRes code =>
    split at h <;> cases h
    exact write_resolution_allowed s code
  case decode | encThr | encRes => cases h
  case disAlarms | sdOn | sdOff =>
    split at h <;> cases h
    · exact requestAllowed_read_devAddr s _
    · exact write_config_allowed s _

/-! ### What the continuations add to the record -/

@[simp] theorem afterFailure_trace (i : Instr) (t : State) :
    (afterFailure i t).trace = .response ⟨.xfail, 0⟩ :: t.trace := by
  unfold afterFailure; split <;> rfl

theorem beginIdentify_trace (d : Half) (t : State) :
    (beginIdentify d t).trace = t.trace ∨
      (beginIdentify d t).trace = .response ⟨.ok, 0⟩ :: t.trace := by
  unfold beginIdentify; split <;> simp

/-- Data delivered adds nothing to the record, but for BEGIN's response to a mismatch. -/
theorem afterData_trace (i : Instr) (k : Nat) (d : Half) (t : State) :
    (afterData i k d t).trace = t.trace ∨
      (afterData i k d t).trace = .response ⟨.ok, 0⟩ :: t.trace := by
  cases i <;> simp only [afterData]
  case begin =>
    split
    · exact beginIdentify_trace d t
    · exact .inl rfl
  case setAlarms | disAlarms | sdOn | sdOff => split <;> exact .inl rfl
  all_goals exact .inl rfl

theorem completion_trace (i : Instr) (s : State) :
    ∃ w, (completion i s).trace = .response ⟨.ok, w⟩ :: s.trace := by
  cases i <;> exact ⟨_, rfl⟩

/-- Only a meaning's next state ends a step. -/
theorem endStep_eq_next {o : Host.Outcome State Fault Refusal} {t : State} (h : endStep o = .next t) :
    ∃ u, o = .next u ∧ t = u.tick := by
  cases o with
  | next u => exact ⟨u, rfl, by cases h; rfl⟩
  | fault | refused => cases h

/-! ### Records with only allowed requests -/

@[simp] theorem onlyAllowed_request (r : Request) (l : List Event) :
    OnlyAllowed (.request r :: l) ↔ requestAllowed r = true ∧ OnlyAllowed l := by
  simp [OnlyAllowed, or_imp, forall_and]

@[simp] theorem onlyAllowed_answer (a : Answer) (l : List Event) :
    OnlyAllowed (.answer a :: l) ↔ OnlyAllowed l := by
  simp [OnlyAllowed]

@[simp] theorem onlyAllowed_response (r : Response) (l : List Event) :
    OnlyAllowed (.response r :: l) ↔ OnlyAllowed l := by
  simp [OnlyAllowed]

@[simp] theorem onlyAllowed_accept (p : Packet) (l : List Event) :
    OnlyAllowed (.accept p :: l) ↔ OnlyAllowed l := by
  simp [OnlyAllowed]

@[simp] theorem onlyAllowed_reset (l : List Event) : OnlyAllowed (.reset :: l) ↔ OnlyAllowed l := by
  simp [OnlyAllowed]

theorem issue_keeps_onlyAllowed {r : Request} {s : State} (hr : requestAllowed r = true)
    (hs : OnlyAllowed s.trace) : OnlyAllowed (s.issue r).trace := by
  cases hp : s.port with
  | none => simp [issue_of_free hp, hr, hs]
  | some q => rwa [issue_of_standing hp]

/-- The transaction of a step, waiting, failed or delivered, adds no request but its own. -/
theorem transact_keeps_onlyAllowed {r : Request} {s : State} (i : Instr) (k : Nat)
    (hr : requestAllowed r = true) (hs : OnlyAllowed s.trace) :
    OnlyAllowed (s.transact r (afterFailure i) (afterData i k)).trace := by
  have hissue := issue_keeps_onlyAllowed hr hs
  rcases transact_cases r (afterFailure i) (afterData i k) s with
    ⟨-, ht⟩ | ⟨a, -, -, ht⟩ | ⟨a, -, -, ht⟩
  · rwa [ht]
  · simpa [ht] using hissue
  · rcases afterData_trace i k a.rdata ((s.issue r).settle a) with hd | hd <;>
      simpa [ht, hd] using hissue

theorem exec_keeps_onlyAllowed {i : Instr} {s t : State} (hs : OnlyAllowed s.trace)
    (h : exec i s = .next t) : OnlyAllowed t.trace := by
  obtain ⟨k, -, -, -, hcase⟩ := exec_cases h
  rcases hcase with ⟨-, -, rfl⟩ | ⟨-, -, rfl⟩ | ⟨-, -, r, hr, rfl⟩
  · simpa using hs
  · obtain ⟨w, hw⟩ := completion_trace i s
    simpa [hw] using hs
  · exact transact_keeps_onlyAllowed i k (stepRequest_allowed hr) hs

/-- Settles O47: only the transaction of a step list puts a request into the record, and each of those is
allowed. -/
theorem onlyAllowedRequestsKept : Obligations.OnlyAllowedRequestsKept := by
  intro s t hs h
  rcases step_cases s with ⟨-, hstep⟩ | ⟨-, -, -, hstep⟩ | ⟨-, u, hu, hstep⟩
  · cases hstep.symm.trans h
    simpa using hs
  · cases hstep.symm.trans h
    simpa using hs
  · have hu : OnlyAllowed u.trace := by
      rcases hu with ⟨k, -, rfl⟩ | ⟨-, p, rest, -, rfl⟩ <;> simpa using hs
    rcases hstep with ⟨-, hstep⟩ | ⟨i, -, hstep⟩
    · cases hstep.symm.trans h
      simpa using hu
    · obtain ⟨v, hv, rfl⟩ := endStep_eq_next (hstep.symm.trans h)
      simpa using exec_keeps_onlyAllowed hu hv

end Sys2Proof.Machine

/-! PROOF. Each pseudo-command has the packet of the command it expands to (30_encoding.md R87). -/

namespace Sys2Proof.Machine

open Sys2Proof

/-! ### Pseudo-commands -/

@[simp] theorem encTemp_instr (v : Literal) : (Line.encTemp v).instr = (Line.encThr v).instr := rfl
@[simp] theorem shutdownOff_instr : Line.shutdownOff.instr = Line.sdOff.instr := rfl
@[simp] theorem shutdownOn_instr : Line.shutdownOn.instr = Line.sdOn.instr := rfl
@[simp] theorem setResolution_instr (c : BitVec 8) :
    (Line.setResolution c).instr = (Line.setRes c).instr := rfl

/-- The packet of a line depends on the command it stands for alone. -/
theorem packet_congr {l m : Line} (h : l.instr = m.instr) : l.packet = m.packet := by
  unfold Line.packet; rw [h]

/-- Settles O5: each pseudo-command stands for the same command as the line it expands to. -/
theorem pseudoCommandsExpand : Obligations.PseudoCommandsExpand :=
  ⟨fun v => packet_congr (encTemp_instr v), packet_congr shutdownOff_instr,
    packet_congr shutdownOn_instr, fun c => packet_congr (setResolution_instr c)⟩

end Sys2Proof.Machine

/-! PROOF. The register codec (40_codec.md R100 to R120). Every word is a whole number of units of 2^-149, and
the rules on rationals become whole-number facts about `valUnits`. -/

namespace Sys2Proof.Machine

open Sys2Proof

/-! ### The value of a word in units of 2^-149 (R100) -/

theorem val_eq_valUnits (w : Word) : val w = (valUnits w : ℚ) / 2 ^ 149 := by
  unfold val valUnits magUnits
  by_cases he : expField w = 0
  · rw [if_pos he, if_pos he, zpow_neg]
    cases signBit w <;> simp [div_eq_mul_inv]
  · have hpos : 1 ≤ (expField w).toNat :=
      Nat.one_le_iff_ne_zero.2 fun h => he (BitVec.eq_of_toNat_eq h)
    have hexp : ((expField w).toNat : Int) - 150 = ((expField w).toNat - 1 : Nat) - (149 : Nat) := by
      omega
    rw [if_neg he, if_neg he, hexp, zpow_sub₀ two_ne_zero, zpow_natCast, zpow_natCast]
    cases signBit w <;> simp [mul_div_assoc, neg_div]

theorem units_neg_iff (x : Int) : (x : ℚ) / 2 ^ 149 < 0 ↔ x < 0 := by
  rw [div_lt_iff₀ (by positivity), zero_mul]
  exact Int.cast_lt_zero

theorem val_neg_iff (w : Word) : val w < 0 ↔ valUnits w < 0 := by
  rw [val_eq_valUnits, units_neg_iff]

/-- In these units 256 is 2^157. -/
theorem neg_256_le_val_iff (w : Word) : -256 ≤ val w ↔ -2 ^ 157 ≤ valUnits w := by
  rw [val_eq_valUnits, le_div_iff₀ (by positivity),
    show (-256 : ℚ) * 2 ^ 149 = (-2 ^ 157 : Int) by norm_num]
  exact Int.cast_le

theorem val_lt_256_iff (w : Word) : val w < 256 ↔ valUnits w < 2 ^ 157 := by
  rw [val_eq_valUnits, div_lt_iff₀ (by positivity),
    show (256 : ℚ) * 2 ^ 149 = (2 ^ 157 : Int) by norm_num]
  exact Int.cast_lt

/-- A sixteenth is 2^145 units. -/
theorem sixteen_mul_units (x : Int) : 16 * ((x : ℚ) / 2 ^ 149) = (x : ℚ) / (2 ^ 145 : Nat) := by
  push_cast
  ring

theorem floor_sixteen_mul_units (x : Int) : ⌊16 * ((x : ℚ) / 2 ^ 149)⌋ = x / 2 ^ 145 := by
  rw [sixteen_mul_units, Rat.floor_intCast_div_natCast]
  rfl

theorem ceil_sixteen_mul_units (x : Int) : ⌈16 * ((x : ℚ) / 2 ^ 149)⌉ = -(-x / 2 ^ 145) := by
  rw [sixteen_mul_units, Rat.ceil_intCast_div_natCast]
  rfl

theorem floor_sixteen_mul_val (w : Word) : ⌊16 * val w⌋ = valUnits w / 2 ^ 145 := by
  rw [val_eq_valUnits, floor_sixteen_mul_units]

/-- A word with exponent field 0, a zero or a subnormal, is its fraction in units. -/
theorem valUnits_of_expField_eq_zero {w : Word} (he : expField w = 0) :
    valUnits w = if signBit w then -((fracField w).toNat : Int) else ((fracField w).toNat : Int) := by
  unfold valUnits magUnits
  rw [if_pos he]

/-! ### The fields of a word put together -/

theorem fracField_append (sgn : BitVec 1) (e : BitVec 8) (f : BitVec 23) : fracField (sgn ++ e ++ f) = f :=
  BitVec.extractLsb'_append_eq_right

theorem expField_append (sgn : BitVec 1) (e : BitVec 8) (f : BitVec 23) : expField (sgn ++ e ++ f) = e := by
  have hdrop : expField (sgn ++ e ++ f) = (sgn ++ e).extractLsb' 0 8 := by
    unfold expField
    ext i hi
    rw [BitVec.getElem_extractLsb', BitVec.getElem_extractLsb', BitVec.getLsbD_append,
      if_neg (by omega), Nat.add_sub_cancel_left, Nat.zero_add]
  exact hdrop.trans BitVec.extractLsb'_append_eq_right

theorem signBit_append (sgn : BitVec 1) (e : BitVec 8) (f : BitVec 23) :
    signBit (sgn ++ e ++ f) = sgn.getLsbD 0 := by
  unfold signBit
  rw [BitVec.getLsbD_append, BitVec.getLsbD_append]
  rfl

/-! ### `bin32` (R101) -/

theorem bin32_of_ne_zero {k : Int} (hk : k ≠ 0) :
    bin32 k = (if k < 0 then 1 else 0 : BitVec 1) ++ BitVec.ofNat 8 (k.natAbs.log2 + 123) ++
      BitVec.ofNat 23 (k.natAbs * 2 ^ (23 - k.natAbs.log2) - 2 ^ 23) := by
  unfold bin32
  rw [if_neg hk]
  simp only [Nat.shiftLeft_eq]

theorem signBit_bin32 {k : Int} (hk : k ≠ 0) : signBit (bin32 k) = decide (k < 0) := by
  rw [bin32_of_ne_zero hk, signBit_append]
  split <;> simp [*]

section
variable {k : Int} (hlo : -4096 ≤ k) (hhi : k ≤ 4095)
include hlo hhi

theorem log2_natAbs_le : k.natAbs.log2 ≤ 12 := by
  by_cases hk : k = 0
  · subst hk; decide
  · exact Nat.le_of_lt_succ ((Nat.log2_lt (by omega)).2 (by omega))

/-- The significand `m * 2^(23-p)` of R101 has its leading bit at bit 23. -/
theorem significand_bounds (hk : k ≠ 0) : 2 ^ 23 ≤ k.natAbs * 2 ^ (23 - k.natAbs.log2) ∧
    k.natAbs * 2 ^ (23 - k.natAbs.log2) < 2 ^ 24 := by
  have hp := log2_natAbs_le hlo hhi
  have hpos := Nat.two_pow_pos (23 - k.natAbs.log2)
  have hle := Nat.mul_le_mul_right (2 ^ (23 - k.natAbs.log2)) (Nat.log2_self_le (n := k.natAbs) (by omega))
  have hlt := Nat.mul_lt_mul_of_pos_right (Nat.lt_log2_self (n := k.natAbs)) hpos
  rw [← pow_add, show k.natAbs.log2 + (23 - k.natAbs.log2) = 23 by omega] at hle
  rw [← pow_add, show k.natAbs.log2 + 1 + (23 - k.natAbs.log2) = 24 by omega] at hlt
  exact ⟨hle, hlt⟩

theorem expField_bin32_toNat (hk : k ≠ 0) : (expField (bin32 k)).toNat = k.natAbs.log2 + 123 := by
  have hp := log2_natAbs_le hlo hhi
  rw [bin32_of_ne_zero hk, expField_append, BitVec.toNat_ofNat]
  omega

theorem fracField_bin32_toNat (hk : k ≠ 0) :
    (fracField (bin32 k)).toNat = k.natAbs * 2 ^ (23 - k.natAbs.log2) - 2 ^ 23 := by
  have hm := significand_bounds hlo hhi hk
  rw [bin32_of_ne_zero hk, fracField_append, BitVec.toNat_ofNat]
  omega

theorem expField_bin32_ne_zero (hk : k ≠ 0) : expField (bin32 k) ≠ 0 := by
  intro h
  have he := expField_bin32_toNat hlo hhi hk
  rw [h] at he
  cases he

theorem finite_bin32 : finite (bin32 k) = true := by
  by_cases hk : k = 0
  · rw [hk]; rfl
  · have hp := log2_natAbs_le hlo hhi
    have he := expField_bin32_toNat hlo hhi hk
    refine bne_iff_ne.2 fun h => ?_
    rw [h, show (0xFF : BitVec 8).toNat = 255 from rfl] at he
    omega

theorem magUnits_bin32 (hk : k ≠ 0) : magUnits (bin32 k) = k.natAbs * 2 ^ 145 := by
  have hp := log2_natAbs_le hlo hhi
  have hm := significand_bounds hlo hhi hk
  unfold magUnits
  rw [if_neg (expField_bin32_ne_zero hlo hhi hk), expField_bin32_toNat hlo hhi hk,
    fracField_bin32_toNat hlo hhi hk, Nat.add_sub_cancel' hm.1, mul_assoc, ← pow_add]
  congr 2
  omega

/-- `bin32` holds `k` sixteenths exactly. -/
theorem valUnits_bin32 : valUnits (bin32 k) = k * 2 ^ 145 := by
  by_cases hk : k = 0
  · rw [hk]; rfl
  · unfold valUnits
    rw [signBit_bin32 hk, magUnits_bin32 hlo hhi hk]
    simp only [decide_eq_true_eq]
    split <;> omega

theorem val_bin32 : val (bin32 k) = (k : ℚ) / 16 := by
  rw [val_eq_valUnits, valUnits_bin32 hlo hhi]
  push_cast
  ring

/-- Only a zero exponent field could make -0.0, and `bin32 0` is +0.0. -/
theorem bin32_ne_neg_zero : bin32 k ≠ 0x80000000 := by
  by_cases hk : k = 0
  · rw [hk]; decide
  · exact fun h => expField_bin32_ne_zero hlo hhi hk (by rw [h]; rfl)

end

/-- Settles O6: the fields are read off the word put together, and the value from its significand, with
p = log2 |k|. -/
theorem bin32HoldsSixteenthsExactly : Obligations.Bin32HoldsSixteenthsExactly := by
  intro k hlo hhi
  refine ⟨finite_bin32 hlo hhi, val_bin32 hlo hhi, fun hk => hk ▸ rfl, fun hk => ?_⟩
  exact ⟨k.natAbs.log2, log2_natAbs_le hlo hhi, Nat.log2_self_le (by omega), Nat.lt_log2_self,
    signBit_bin32 hk, expField_bin32_toNat hlo hhi hk, fracField_bin32_toNat hlo hhi hk⟩

/-! ### The temperature decoder (R102 to R104) -/

theorem and_tempMagMask_toNat (raw : Half) : (raw &&& Config.tempMagMask).toNat = raw.toNat % 4096 := by
  rw [BitVec.toNat_and]
  exact Nat.and_two_pow_sub_one_eq_mod _ 12

theorem and_tempSign_ne_zero_iff (raw : Half) :
    raw &&& Config.tempSign ≠ 0 ↔ raw.getLsbD 12 = true := by
  have h : raw &&& Config.tempSign = if raw.getLsbD 12 then Config.tempSign else 0 :=
    BitVec.and_twoPow raw 12
  rw [h]
  cases raw.getLsbD 12 <;> decide

theorem decodeTemperature_eq (raw : Half) :
    decodeTemperature raw = (raw.toNat % 4096 : Nat) - (if raw.getLsbD 12 then 4096 else 0 : Int) := by
  unfold decodeTemperature
  simp only [and_tempMagMask_toNat, and_tempSign_ne_zero_iff]
  split <;> simp

/-- The document's formula is the residue of the payload modulo 2^13 nearest to 0. -/
theorem decodeTemperature_eq_bmod (raw : Half) : decodeTemperature raw = (raw.toNat : Int).bmod 8192 := by
  have hbit : raw.getLsbD 12 = decide (raw.toNat / 2 ^ 12 % 2 = 1) := Nat.testBit_eq_decide_div_mod_eq
  rw [decodeTemperature_eq, hbit, Int.bmod_def]
  simp only [decide_eq_true_eq]
  split <;> split <;> omega

theorem decodeTemperature_eq_toInt (raw : Half) :
    decodeTemperature raw = (raw.extractLsb' 0 13).toInt := by
  rw [decodeTemperature_eq_bmod, BitVec.toInt_extractLsb', Nat.shiftRight_zero]

theorem neg_4096_le_decodeTemperature (raw : Half) : -4096 ≤ decodeTemperature raw := by
  rw [decodeTemperature_eq_toInt]
  exact BitVec.le_toInt _

theorem decodeTemperature_le_4095 (raw : Half) : decodeTemperature raw ≤ 4095 := by
  rw [decodeTemperature_eq_toInt]
  exact Int.le_of_lt_add_one BitVec.toInt_lt

/-- R102 as the document writes it, in degrees. -/
theorem decodeTemperature_div_sixteen (raw : Half) : (decodeTemperature raw : ℚ) / 16 =
    ((raw.extractLsb' 0 12).toNat : ℚ) / 16 - (if raw.getLsbD 12 then 256 else 0) := by
  rw [decodeTemperature_eq, BitVec.extractLsb'_toNat, Nat.shiftRight_zero, show 2 ^ 12 = 4096 from rfl]
  generalize raw.toNat % 4096 = t
  cases raw.getLsbD 12
  · simp
  · rw [if_pos rfl, if_pos rfl]; push_cast; ring

/-- A value in range is decoded from its two's complement in bits 12:0 and from nothing else. -/
theorem decodeTemperature_eq_iff {k : Int} (hlo : -4096 ≤ k) (hhi : k ≤ 4095) (raw : Half) :
    decodeTemperature raw = k ↔ raw.extractLsb' 0 13 = BitVec.ofInt 13 k := by
  have hk : (BitVec.ofInt 13 k).toInt = k := BitVec.toInt_ofInt_eq_self (by decide) hlo (by omega)
  rw [decodeTemperature_eq_toInt, ← BitVec.toInt_inj, hk]

/-- Settles O7: the document's formula and the two's-complement reading are the same residue modulo 2^13. -/
theorem decoderIsTwosComplement : Obligations.DecoderIsTwosComplement := by
  refine ⟨fun raw => ?_, fun k hlo hhi => ⟨BitVec.ofInt 13 k, decodeTemperature_eq_iff hlo hhi⟩⟩
  have hlo := neg_4096_le_decodeTemperature raw
  have hhi := decodeTemperature_le_4095 raw
  exact ⟨decodeTemperature_eq_toInt raw, decodeTemperature_div_sixteen raw, hlo, hhi,
    val_bin32 hlo hhi, bin32_ne_neg_zero hlo hhi⟩

/-- Settles O8: decoder and DECODE read bits 12:0 alone, and READ's last step answers from RDTMP. -/
theorem decoderIgnoresUpperBitsAndResolution : Obligations.DecoderIgnoresUpperBitsAndResolution := by
  refine ⟨fun raw raw' h => ⟨?_, fun s => ?_⟩, fun s code t t' hseq ht ht' => ?_⟩
  · rw [decodeTemperature_eq_toInt, decodeTemperature_eq_toInt, h]
  · simp only [exec, execDecode, h]
  · have hread : ∀ u : State, u.seq = .busy 2 → exec .read u = .next (completion .read u) :=
      fun u hu => exec_last hu (by decide)
    cases (hread s hseq).symm.trans ht
    cases (hread { s with res := code } hseq).symm.trans ht'
    rfl

/-! ### The threshold encoder (R110 to R115) -/

/-- R110's `x` in units of 2^-149: `val(w)`, plus 256 when it is negative. -/
def encoderUnits (w : Word) : Int := if valUnits w < 0 then valUnits w + 2 ^ 157 else valUnits w

/-- The encoder with TCFM's `ENC_ROUND`, which rounds nothing. -/
theorem encodeAlarmThreshold_eq (w : Word) :
    encodeAlarmThreshold w = BitVec.ofInt 16 ((encoderUnits w).tdiv (2 ^ 145) % 8192) |||
      (if valUnits w < 0 then 0x1000 else 0x0000) := rfl

theorem encoderUnits_div (w : Word) :
    (encoderUnits w : ℚ) / 2 ^ 149 = if val w < 0 then val w + 256 else val w := by
  unfold encoderUnits
  simp only [val_neg_iff]
  split
  · rw [val_eq_valUnits]; push_cast; ring
  · rw [val_eq_valUnits]

theorem extract_high_eq_zero {v : Half} (h : v.toNat < 2 ^ 13) : v.extractLsb' 13 3 = 0 := by
  apply BitVec.eq_of_toNat_eq
  rw [BitVec.extractLsb'_toNat, Nat.shiftRight_eq_div_pow, Nat.div_eq_of_lt h]
  rfl

/-- Settles O9: R110's `x` is a whole number of units, and `trunc(16 * x)` is their quotient by 2^145, rounded
down when x is not negative and up when it is. -/
theorem encoderIsTheRationalFormula : Obligations.EncoderIsTheRationalFormula := by
  intro w _
  refine ⟨(encoderUnits w : ℚ) / 2 ^ 149, (encoderUnits w).tdiv (2 ^ 145), encoderUnits_div w,
    fun hx => ?_, fun hx => ?_, ?_, extract_high_eq_zero (encodeThresholdWith_lt _ w)⟩
  · have hnonneg : 0 ≤ encoderUnits w := not_lt.1 fun h => not_lt.2 hx ((units_neg_iff _).2 h)
    rw [floor_sixteen_mul_units, Int.tdiv_eq_ediv_of_nonneg hnonneg]
  · have hneg : 0 ≤ -encoderUnits w := Int.neg_nonneg.2 ((units_neg_iff _).1 hx).le
    rw [ceil_sixteen_mul_units, ← Int.tdiv_eq_ediv_of_nonneg hneg, Int.neg_tdiv, neg_neg]
  · simp only [val_neg_iff]
    exact encodeAlarmThreshold_eq w

/-- R111 in units: in range the encoder is a floor, negative values included, because adding 256 moves the
quotient by 4096, which is the sign bit. -/
theorem encodeAlarmThreshold_toNat {w : Word} (hlo : -2 ^ 157 ≤ valUnits w) (hhi : valUnits w < 2 ^ 157) :
    ((encodeAlarmThreshold w).toNat : Int) = valUnits w / 2 ^ 145 % 8192 := by
  have hnonneg : 0 ≤ encoderUnits w := by unfold encoderUnits; split <;> omega
  rw [encodeAlarmThreshold_eq, Int.tdiv_eq_ediv_of_nonneg hnonneg, BitVec.toNat_or, BitVec.toNat_ofInt]
  unfold encoderUnits
  by_cases hneg : valUnits w < 0
  · rw [if_pos hneg, if_pos hneg]
    have hor := Nat.two_pow_add_eq_or_of_lt
      (show ((valUnits w + 2 ^ 157) / 2 ^ 145 % 8192 % (2 ^ 16 : Nat)).toNat < 2 ^ 12 by omega) 1
    rw [Nat.or_comm, show (0x1000 : Half).toNat = 2 ^ 12 * 1 from rfl, ← hor]
    omega
  · rw [if_neg hneg, if_neg hneg, show (0x0000 : Half).toNat = 0 from rfl, Nat.or_zero]
    omega

/-- The round trip in units: 13 bits hold the floor of a value in range. -/
theorem decodeTemperature_encodeAlarmThreshold {w : Word} (hlo : -2 ^ 157 ≤ valUnits w)
    (hhi : valUnits w < 2 ^ 157) : decodeTemperature (encodeAlarmThreshold w) = valUnits w / 2 ^ 145 := by
  rw [decodeTemperature_eq_bmod, encodeAlarmThreshold_toNat hlo hhi, Int.bmod_def]
  split <;> omega

/-- Settles O11: the round trip is the floor of 16 v, which for a multiple of 1/16 is the multiple itself. -/
theorem thresholdRoundTrip : Obligations.ThresholdRoundTrip := by
  refine ⟨fun k hlo hhi => ?_, fun w _ hlo hhi => ?_⟩
  · have hv := valUnits_bin32 hlo hhi
    rw [decodeTemperature_encodeAlarmThreshold (by omega) (by omega), hv]
    exact Int.mul_ediv_cancel k (by decide)
  · have hround : decodeTemperature (encodeAlarmThreshold w) = ⌊16 * val w⌋ := by
      rw [floor_sixteen_mul_val]
      exact decodeTemperature_encodeAlarmThreshold ((neg_256_le_val_iff w).1 hlo) ((val_lt_256_iff w).1 hhi)
    have hle := Int.floor_le (16 * val w)
    have hlt := Int.lt_floor_add_one (16 * val w)
    rw [hround]
    exact ⟨rfl, by linarith, by linarith⟩

/-! ### Zeros and subnormals (R114) -/

theorem encodeAlarmThreshold_eq_zero {w : Word} (h0 : 0 ≤ valUnits w) (h : valUnits w < 2 ^ 145) :
    encodeAlarmThreshold w = 0x0000 := by
  have hn := encodeAlarmThreshold_toNat (w := w) (by omega) (by omega)
  apply BitVec.eq_of_toNat_eq
  rw [show (0x0000 : Half).toNat = 0 from rfl]
  omega

/-- A negative value above -1/16 has floor -1 in sixteenths. -/
theorem encodeAlarmThreshold_eq_1FFF {w : Word} (h0 : valUnits w < 0) (h : -2 ^ 145 ≤ valUnits w) :
    encodeAlarmThreshold w = 0x1FFF := by
  have hn := encodeAlarmThreshold_toNat (w := w) (by omega) (by omega)
  apply BitVec.eq_of_toNat_eq
  rw [show (0x1FFF : Half).toNat = 8191 from rfl]
  omega

/-- 256 less a subnormal is nearer to 256 than to the binary32 number below it. -/
theorem roundSignificant_256_sub {f : Nat} (h0 : 0 < f) (hf : f < 2 ^ 23) :
    roundSignificant 24 (-(f : Int) + 2 ^ 157) = 2 ^ 157 := by
  have habs : (-(f : Int) + 2 ^ 157).natAbs = 2 ^ 157 - f := by omega
  have hsign : (-(f : Int) + 2 ^ 157).sign = 1 := Int.sign_eq_one_of_pos (by omega)
  have hlog : Nat.log2 (2 ^ 157 - f) = 156 := (Nat.log2_eq_iff (by omega)).2 (by omega)
  have hq : (2 ^ 157 - f) / 2 ^ (156 + 1 - 24) = 2 ^ 24 - 1 := by omega
  have hr : (2 ^ 157 - f) % 2 ^ (156 + 1 - 24) = 2 ^ 133 - f := by omega
  unfold roundSignificant
  simp only [habs, hsign, hlog]
  rw [hq, hr, if_pos (by omega)]
  rfl

theorem encodeThresholdWith_binary32_subnormal {w : Word} {f : Nat} (hw : valUnits w = -(f : Int))
    (h0 : 0 < f) (hf : f < 2 ^ 23) : encodeThresholdWith .binary32 w = 0x1000 := by
  have hneg : -(f : Int) < 0 := by omega
  unfold encodeThresholdWith roundSum
  simp only [hw, if_pos hneg, roundSignificant_256_sub h0 hf]
  decide

/-- Settles O12: a zero is 0 units, and a subnormal fewer than 2^23 units on its side of 0, far less than the
2^145 of a sixteenth. -/
theorem zerosAndSubnormalsEncodeExactly : Obligations.ZerosAndSubnormalsEncodeExactly := by
  refine ⟨encodeAlarmThreshold_eq_zero (by decide) (by decide),
    encodeAlarmThreshold_eq_zero (by decide) (by decide), fun w he _ hs => ?_, fun w he hf hs => ?_⟩
  · have hv := valUnits_of_expField_eq_zero he
    have hlt := (fracField w).isLt
    rw [hs, if_neg Bool.false_ne_true] at hv
    exact encodeAlarmThreshold_eq_zero (by omega) (by omega)
  · have hv := valUnits_of_expField_eq_zero he
    have hlt := (fracField w).isLt
    have hpos : 0 < (fracField w).toNat := Nat.pos_of_ne_zero fun h => hf (BitVec.eq_of_toNat_eq h)
    rw [hs, if_pos rfl] at hv
    exact ⟨encodeAlarmThreshold_eq_1FFF (by omega) (by omega),
      encodeThresholdWith_binary32_subnormal hv hpos hlt⟩

/-! ### The resolution encoder (R120) -/

theorem encodeResolution_toNat (code : BitVec 8) :
    (encodeResolution code).toNat = code.toNat % 4 * 256 := by
  unfold encodeResolution Config.resShift
  rw [BitVec.toNat_shiftLeft, BitVec.toNat_setWidth, BitVec.extractLsb'_toNat, Nat.shiftRight_zero,
    Nat.shiftLeft_eq]
  omega

/-- The four payloads are the values of the four residues. -/
theorem encodeResolution_mem (code : BitVec 8) :
    encodeResolution code ∈ ([0x0000, 0x0100, 0x0200, 0x0300] : List Half) := by
  have hn := encodeResolution_toNat code
  have hmod : code.toNat % 4 = 0 ∨ code.toNat % 4 = 1 ∨ code.toNat % 4 = 2 ∨ code.toNat % 4 = 3 := by
    omega
  rcases hmod with h | h | h | h <;> simp [← BitVec.toNat_inj, hn, h]

/-- Settles O14: the payload as a number, which takes four values, and its mask. -/
theorem resolutionEncoderMasksAndShifts : Obligations.ResolutionEncoderMasksAndShifts :=
  fun code => ⟨encodeResolution_toNat code, encodeResolution_mem code, encodeResolution_and_FCFF code⟩

end Sys2Proof.Machine

/-! PROOF. Decoder and encoder (30_encoding.md R80 to R86): a command word is its four fields put together, so a
packet that decodes has the command word of the command it decodes to. -/

namespace Sys2Proof

/-! ### The fields of a command word -/

theorem cmd_eq_append (c : Half) : imm8Field c ++ rsvField c ++ fField c ++ opField c = c := by
  unfold imm8Field rsvField fField opField
  rw [BitVec.extractLsb'_append_extractLsb'_eq_extractLsb' (show 8 = 5 + 3 from rfl),
    BitVec.extractLsb'_append_extractLsb'_eq_extractLsb' (show 5 = 4 + 1 from rfl),
    BitVec.extractLsb'_append_extractLsb'_eq_extractLsb' (show 4 = 0 + 4 from rfl)]
  exact BitVec.extractLsb'_eq_self

/-- A command word with RSV 0 is laid out as the encoder lays it out. -/
theorem cmdWord_fields {c : Half} (h : rsvField c = 0) :
    cmdWord (opField c) (fField c) (imm8Field c) = c := by
  have hc := cmd_eq_append c
  rwa [h] at hc

@[simp] theorem opField_cmdWord (op : BitVec 4) (f : BitVec 1) (m : BitVec 8) :
    opField (cmdWord op f m) = op := BitVec.extractLsb'_append_eq_right

@[simp] theorem fField_cmdWord (op : BitVec 4) (f : BitVec 1) (m : BitVec 8) :
    fField (cmdWord op f m) = f := by
  unfold fField cmdWord
  rw [BitVec.extractLsb'_append_eq_of_le (by decide)]
  exact BitVec.extractLsb'_append_eq_right

@[simp] theorem rsvField_cmdWord (op : BitVec 4) (f : BitVec 1) (m : BitVec 8) :
    rsvField (cmdWord op f m) = 0 := by
  unfold rsvField cmdWord
  rw [BitVec.extractLsb'_append_eq_of_le (by decide), BitVec.extractLsb'_append_eq_of_le (by decide)]
  exact BitVec.extractLsb'_append_eq_right

@[simp] theorem imm8Field_cmdWord (op : BitVec 4) (f : BitVec 1) (m : BitVec 8) :
    imm8Field (cmdWord op f m) = m := by
  unfold imm8Field cmdWord
  rw [BitVec.extractLsb'_append_eq_of_le (by decide), BitVec.extractLsb'_append_eq_of_le (by decide),
    BitVec.extractLsb'_append_eq_of_le (by decide)]
  exact BitVec.extractLsb'_eq_self

/-! ### Packets that decode -/

@[simp] theorem noF_iff (c : Half) : noF c = true ↔ fField c = 0 := beq_iff_eq

@[simp] theorem noImm8_iff (c : Half) : noImm8 c = true ↔ imm8Field c = 0 := beq_iff_eq

theorem fField_eq_one {c : Half} (h : fField c ≠ 0) : fField c = 1 := by
  generalize fField c = f at h ⊢
  revert f
  decide

theorem cmd_eq_cmdWord {c : Half} {op : BitVec 4} {f : BitVec 1} {m : BitVec 8} (hr : rsvField c = 0)
    (hop : (opField c).toNat = op.toNat) (hf : fField c = f) (hm : imm8Field c = m) :
    c = cmdWord op f m := by
  rw [← hf, ← hm, ← BitVec.eq_of_toNat_eq hop, cmdWord_fields hr]

/-- The operands of a command are the bits of the packet that 30_encoding.md R82 names. -/
def OperandsFrom (p : Packet) : Instr → Prop
  | .setAlarms lower upper => lower = p.a ∧ upper = p.b
  | .decode raw => raw = p.a.extractLsb' 0 16
  | .encThr value => value = p.a
  | _ => True

/-- What the decoder reads, said once: the command word is laid out as the encoder lays it out, and the operands
are the bits of A and B that the command names. -/
theorem decode_cases {p : Packet} {i : Instr} (h : decode p = some i) :
    p.cmd = (encode i).cmd ∧ OperandsFrom p i := by
  unfold decode at h
  split at h
  · cases h
  next hr =>
  have hr := not_not.1 hr
  split at h <;> simp only [Option.ite_none_right_eq_some, Bool.and_eq_true, noF_iff, noImm8_iff,
    Option.some.injEq, reduceCtorEq] at h <;> rename_i hop
  case h_1 | h_2 | h_4 =>
    obtain ⟨⟨hf, hm⟩, rfl⟩ := h
    exact ⟨cmd_eq_cmdWord hr hop hf hm, trivial⟩
  case h_3 =>
    obtain ⟨⟨hf, hm⟩, rfl⟩ := h
    exact ⟨cmd_eq_cmdWord hr hop hf hm, rfl, rfl⟩
  case h_5 =>
    obtain ⟨hm, rfl⟩ := h
    by_cases hf : fField p.cmd = 0
    · rw [if_pos hf]
      exact ⟨cmd_eq_cmdWord hr hop hf hm, trivial⟩
    · rw [if_neg hf]
      exact ⟨cmd_eq_cmdWord hr hop (fField_eq_one hf) hm, trivial⟩
  case h_6 | h_9 =>
    obtain ⟨hf, rfl⟩ := h
    exact ⟨cmd_eq_cmdWord hr hop hf rfl, trivial⟩
  case h_7 | h_8 =>
    obtain ⟨⟨hf, hm⟩, rfl⟩ := h
    exact ⟨cmd_eq_cmdWord hr hop hf hm, rfl⟩

/-- The decoder, said once in both directions: a packet decodes to the command whose command word it has and whose
operands are its named bits. -/
theorem decode_eq_some_iff {p : Packet} {i : Instr} :
    decode p = some i ↔ p.cmd = (encode i).cmd ∧ OperandsFrom p i := by
  refine ⟨decode_cases, fun ⟨hcmd, hops⟩ => ?_⟩
  have hencode : decode p = decode { p with cmd := (encode i).cmd } := by rw [← hcmd]
  rw [hencode]
  cases i with
  | begin | read | disAlarms | sdOn | sdOff => simp [decode, encode, Packet.ofCmd, noF, noImm8]
  | setAlarms lower upper =>
    obtain ⟨rfl, rfl⟩ := hops
    simp [decode, encode, noF, noImm8]
  | setRes code | encRes code => simp [decode, encode, Packet.ofCmd, noF]
  | decode raw | encThr value =>
    cases hops
    simp [decode, encode, noF, noImm8]

theorem operandsFrom_encode (i : Instr) : OperandsFrom (encode i) i := by
  cases i with
  | setAlarms lower upper => exact ⟨rfl, rfl⟩
  | decode raw =>
    exact (BitVec.extractLsb'_eq_self (x := raw)).symm.trans
      (BitVec.extractLsb'_setWidth_of_le (by decide)).symm
  | encThr value => rfl
  | begin | read | disAlarms | sdOn | sdOff | setRes | encRes => trivial

theorem decode_encode (i : Instr) : decode (encode i) = some i :=
  decode_eq_some_iff.2 ⟨rfl, operandsFrom_encode i⟩

/-- Settles O3: a packet decodes to a command exactly when it has that command's word and named operand bits. -/
theorem decodeAndEncodeAgree : Obligations.DecodeAndEncodeAgree := by
  refine ⟨decode_encode, fun p i h => ?_⟩
  obtain ⟨hcmd, hops⟩ := decode_cases h
  refine ⟨hcmd.symm, ?_, ?_, ?_⟩
  · rintro lower upper rfl
    obtain ⟨rfl, rfl⟩ := hops
    exact congrArg (Packet.mk · p.a p.b) hcmd.symm
  · rintro value rfl
    exact hops
  · rintro raw rfl
    have hraw : raw = p.a.setWidth 16 := hops.trans (BitVec.setWidth_eq_extractLsb' (by decide)).symm
    rw [← hraw]
    exact BitVec.setWidth_setWidth_of_le raw (by decide)

/-! ### Valid command words -/

/-- Every instruction's packet has a valid command word, by both readings of R84. -/
theorem encodes_valid (i : Instr) : Laws.EncodesValid.Statement i := by
  cases i with
  | begin => exact Laws.EncodesValid.begin
  | read => exact Laws.EncodesValid.read
  | setAlarms lower upper => exact Laws.EncodesValid.setAlarms lower upper
  | disAlarms => exact Laws.EncodesValid.disAlarms
  | sdOn => exact Laws.EncodesValid.sdOn
  | sdOff => exact Laws.EncodesValid.sdOff
  | setRes code => exact Laws.EncodesValid.setRes code
  | decode raw => exact Laws.EncodesValid.decode raw
  | encThr value => exact Laws.EncodesValid.encThr value
  | encRes code => exact Laws.EncodesValid.encRes code

/-- A mask of `len` bits from bit `start` on tests the field there. -/
theorem and_mask_eq_zero_iff (c : Half) {start len : Nat} (h : start + len ≤ 16) :
    c &&& ((BitVec.allOnes len).setWidth 16 <<< start) = 0 ↔ c.extractLsb' start len = 0 := by
  have hmask : ∀ i, ((BitVec.allOnes len).setWidth 16 <<< start).getLsbD i =
      (decide (start ≤ i) && decide (i < start + len)) := by
    intro i
    simp only [BitVec.getLsbD_shiftLeft, BitVec.getLsbD_setWidth, BitVec.getLsbD_allOnes]
    grind
  refine ⟨fun hz => BitVec.eq_of_getLsbD_eq fun j hj => ?_, fun hz => BitVec.eq_of_getLsbD_eq fun i hi => ?_⟩
  · have hj' := congrArg (BitVec.getLsbD · (start + j)) hz
    simpa [hmask, hj] using hj'
  · rw [BitVec.getLsbD_and, hmask]
    by_cases hin : start ≤ i ∧ i < start + len
    · have hi' := congrArg (BitVec.getLsbD · (i - start)) hz
      have hlt : i - start < len := by omega
      simpa [hin, hlt, Nat.add_sub_cancel' hin.1] using hi'
    · simp; omega

theorem rsvZero_iff (c : Half) : rsvZero c = true ↔ rsvField c = 0 :=
  beq_iff_eq.trans (and_mask_eq_zero_iff c (start := 5) (len := 3) (by decide))

theorem and_0010_iff (c : Half) : (c &&& 0x0010 == 0) = true ↔ fField c = 0 :=
  beq_iff_eq.trans (and_mask_eq_zero_iff c (start := 4) (len := 1) (by decide))

theorem and_FF00_iff (c : Half) : (c &&& 0xFF00 == 0) = true ↔ imm8Field c = 0 :=
  beq_iff_eq.trans (and_mask_eq_zero_iff c (start := 8) (len := 8) (by decide))

theorem hasOp_iff (op c : Half) :
    hasOp op c = true ↔ (opField c).toNat = op.toNat := by
  unfold hasOp opField
  rw [beq_iff_eq, ← BitVec.toNat_inj, BitVec.toNat_and, BitVec.extractLsb'_toNat, Nat.shiftRight_zero,
    show (0x000F : Half).toNat = 2 ^ 4 - 1 from rfl, Nat.and_two_pow_sub_one_eq_mod]

theorem opAssigned_iff (c : Half) :
    opAssigned c = true ↔ 1 ≤ (opField c).toNat ∧ (opField c).toNat ≤ 9 := by
  have hlt := (opField c).isLt
  unfold opAssigned
  rw [Bool.not_eq_true', ← Bool.not_eq_true]
  simp only [Bool.or_eq_true, hasOp_iff, BitVec.reduceToNat]
  omega

theorem unusedZero_iff (c : Half) : unusedZero c = true ↔
    ((opField c).toNat = 5 ∨ fField c = 0) ∧
      ((opField c).toNat = 6 ∨ (opField c).toNat = 9 ∨ imm8Field c = 0) := by
  unfold unusedZero
  simp only [Bool.and_eq_true, Bool.or_eq_true, hasOp_iff, BitVec.reduceToNat,
    and_0010_iff, and_FF00_iff, or_assoc]

/-- A word in none of the three groups of illegal words passes every test of the decoder. -/
theorem decode_isSome_of_wellFormed {p : Packet} (h : wellFormedCmd p.cmd = true) :
    (decode p).isSome = true := by
  unfold wellFormedCmd at h
  simp only [Bool.and_eq_true, opAssigned_iff, rsvZero_iff, unusedZero_iff] at h
  obtain ⟨⟨⟨h1, h9⟩, hr⟩, hf, hm⟩ := h
  unfold decode
  rw [if_neg (not_not.2 hr)]
  split <;> rename_i hop
  case h_10 => simp only [imp_false] at *; omega
  all_goals simp_all

/-- Masking with 0x00FF keeps OP, F and RSV. -/
theorem fields_and_00FF (c : Half) : opField (c &&& 0x00FF) = opField c ∧
    fField (c &&& 0x00FF) = fField c ∧ rsvField (c &&& 0x00FF) = rsvField c :=
  ⟨BitVec.extractLsb'_and.trans BitVec.and_allOnes, BitVec.extractLsb'_and.trans BitVec.and_allOnes,
    BitVec.extractLsb'_and.trans BitVec.and_allOnes⟩

/-- A row whose mask is 0x00FF leaves IMM8 free. -/
theorem eq_cmdWord_of_and_00FF {c : Half} {op : BitVec 4} (h : c &&& 0x00FF = cmdWord op 0 0) :
    c = cmdWord op 0 (imm8Field c) := by
  obtain ⟨hop, hf, hr⟩ := fields_and_00FF c
  rw [h] at hop hf hr
  exact cmd_eq_cmdWord (by simpa using hr.symm) (by simp [← hop]) (by simpa using hf.symm) rfl

theorem eq_of_and_FFFF {c w : Half} (h : c &&& 0xFFFF = w) : c = w :=
  (BitVec.and_allOnes (x := c)).symm.trans h

/-- The masks of R83: a row fixes its whole word, or it is SETRES or ENCRES and leaves IMM8 free. -/
theorem opcodeTable_rows : ∀ r ∈ opcodeTable,
    (r.mask = 0xFFFF ∧ wellFormedCmd r.pattern = true) ∨
    (r.mask = 0x00FF ∧ (r.pattern = cmdWord 6 0 0 ∨ r.pattern = cmdWord 9 0 0)) := by decide

theorem wellFormed_of_valid {c : Half} (h : validCmd c = true) : wellFormedCmd c = true := by
  obtain ⟨r, hr, hc⟩ := List.any_eq_true.1 h
  have hc : c &&& r.mask = r.pattern := beq_iff_eq.1 hc
  rcases opcodeTable_rows r hr with ⟨hm, hp⟩ | ⟨hm, hp | hp⟩ <;> rw [hm] at hc
  · rwa [eq_of_and_FFFF hc]
  · rw [eq_cmdWord_of_and_00FF (hc.trans hp)]
    exact (encodes_valid (.setRes _)).2
  · rw [eq_cmdWord_of_and_00FF (hc.trans hp)]
    exact (encodes_valid (.encRes _)).2

/-- Two rows that cover one word agree on the bits that both of them fix. -/
theorem covers_unique : ∀ r ∈ opcodeTable, ∀ q ∈ opcodeTable,
    r.pattern &&& q.mask = q.pattern &&& r.mask → r = q := by decide

/-- Settles O2: a word of a row is in no group of illegal words, a word in none of them passes the decoder's
tests, and a word that passes them is that of an encoded command. -/
theorem validWordsAreTheRowsWords : Obligations.ValidWordsAreTheRowsWords := by
  have hdecode : ∀ p : Packet, (decode p).isSome = true → validCmd p.cmd = true := fun p h => by
    obtain ⟨i, hi⟩ := Option.isSome_iff_exists.1 h
    rw [(decode_cases hi).1]
    exact (encodes_valid i).1
  refine ⟨fun p => ?_, fun cmd => ?_, fun cmd r hr q hq hrc hqc => covers_unique r hr q hq ?_⟩
  · rw [Bool.eq_iff_iff]
    exact ⟨hdecode p, fun h => decode_isSome_of_wellFormed (wellFormed_of_valid h)⟩
  · rw [Bool.eq_iff_iff]
    exact ⟨wellFormed_of_valid, fun h => hdecode (.ofCmd cmd) (decode_isSome_of_wellFormed h)⟩
  · rw [← beq_iff_eq.1 hrc, ← beq_iff_eq.1 hqc, BitVec.and_assoc, BitVec.and_assoc,
      BitVec.and_comm r.mask]

theorem isSome_decode (p : Packet) : (decode p).isSome = validCmd p.cmd :=
  validWordsAreTheRowsWords.1 p

theorem decode_eq_none_iff {p : Packet} : decode p = none ↔ validCmd p.cmd = false := by
  rw [← isSome_decode, Option.isSome_eq_false_iff, Option.isNone_iff_eq_none]

/-- The named operand bits of a packet are all that its operands are read from. -/
theorem OperandsFrom.congr {p q : Packet} {i : Instr} (h : OperandsFrom p i) (hcmd : p.cmd = (encode i).cmd)
    (hsa : p.cmd = 0x0003 → p.a = q.a ∧ p.b = q.b)
    (hdec : p.cmd = 0x0007 → p.a.setWidth 16 = q.a.setWidth 16)
    (henc : p.cmd = 0x0008 → p.a = q.a) : OperandsFrom q i := by
  cases i with
  | setAlarms lower upper =>
    obtain ⟨ha, hb⟩ := hsa hcmd
    exact ⟨h.1.trans ha, h.2.trans hb⟩
  | decode raw =>
    have ha := hdec hcmd
    rw [BitVec.setWidth_eq_extractLsb' (by decide), BitVec.setWidth_eq_extractLsb' (by decide)] at ha
    exact h.trans ha
  | encThr value => exact h.trans (henc hcmd)
  | begin | read | disAlarms | sdOn | sdOff | setRes | encRes => trivial

/-- Settles O4: whether a packet decodes rests on its command word, and to what on that word and the named bits. -/
theorem unnamedOperandBitsIgnored : Obligations.UnnamedOperandBitsIgnored := by
  intro p q hcmd hsa hdec henc
  cases hp : decode p with
  | none => rw [eq_comm, decode_eq_none_iff, ← hcmd, ← decode_eq_none_iff, hp]
  | some i =>
    obtain ⟨hword, hops⟩ := decode_cases hp
    exact (decode_eq_some_iff.2 ⟨hcmd ▸ hword, hops.congr hword hsa hdec henc⟩).symm

/-- Settles O1: a valid word is that of the encoded command, and an illegal one is in no row. -/
theorem specWordsDecode : Obligations.SpecWordsDecode := by
  intro a b
  have hvalid : ∀ {w : Half} {i : Instr}, w = (encode i).cmd → OperandsFrom ⟨w, a, b⟩ i →
      decode ⟨w, a, b⟩ = some i := fun hw hops => decode_eq_some_iff.2 ⟨hw, hops⟩
  have hillegal : ∀ {w : Half}, validCmd w = false → decode ⟨w, a, b⟩ = none :=
    fun hw => decode_eq_none_iff.2 hw
  exact ⟨hvalid rfl trivial, hvalid rfl trivial, hvalid rfl ⟨rfl, rfl⟩, hvalid rfl trivial,
    hvalid rfl trivial, hvalid rfl trivial, hvalid rfl trivial,
    hvalid rfl (BitVec.setWidth_eq_extractLsb' (by decide)), hvalid rfl rfl, hvalid rfl trivial,
    hillegal rfl, hillegal rfl, hillegal rfl, hillegal rfl, hillegal rfl, hillegal rfl, hillegal rfl,
    hillegal rfl, hillegal rfl⟩

end Sys2Proof

/-! PROOF. The encoder in range and beyond it, the flag manipulator and the byte transport (40_codec.md R111, R112;
20_memory.md R52, R56, R57, R62). -/

namespace Sys2Proof.Machine

open Sys2Proof

/-! ### The threshold encoder -/

/-- Settles O10: in range the encoder is the floor in sixteenths, modulo 2^13. -/
theorem encoderIsFloorInRange : Obligations.EncoderIsFloorInRange := by
  intro w _ hlo hhi
  have hlt : (encodeAlarmThreshold w).toNat < 2 ^ 13 := encodeThresholdWith_lt Config.encRound w
  refine ⟨?_, extract_high_eq_zero hlt, ?_⟩
  · rw [BitVec.extractLsb'_toNat, Nat.shiftRight_zero, Nat.mod_eq_of_lt hlt, floor_sixteen_mul_val]
    exact encodeAlarmThreshold_toNat ((neg_256_le_val_iff w).1 hlo) ((val_lt_256_iff w).1 hhi)
  · rintro rfl
    exact encodeAlarmThreshold_eq_1FFF (by decide) (by decide)

/-- Settles O13: eight closed computations, the words of R112. -/
theorem outOfRangeExamplesWrap : Obligations.OutOfRangeExamplesWrap := by
  refine ⟨?_, ?_, ?_, ?_, ?_, ?_, ?_, ?_⟩ <;> decide

/-! ### The flag manipulator -/

/-- The masks of R62 have one bit each. -/
theorem cfgAlertEn_eq_twoPow : Config.cfgAlertEn = BitVec.twoPow 16 3 := rfl

theorem cfgShdn_eq_twoPow : Config.cfgShdn = BitVec.twoPow 16 8 := rfl

theorem getLsbD_or_twoPow (c : Half) {k : Nat} (hk : k < 16) (n : Nat) :
    (c ||| BitVec.twoPow 16 k).getLsbD n = if n = k then true else c.getLsbD n := by
  rw [BitVec.getLsbD_or, BitVec.getLsbD_twoPow, decide_eq_true hk, Bool.true_and]
  split <;> simp_all [eq_comm]

theorem getLsbD_xor_twoPow (c : Half) {k : Nat} (hk : k < 16) (n : Nat) :
    (c ^^^ BitVec.twoPow 16 k).getLsbD n = if n = k then !c.getLsbD n else c.getLsbD n := by
  rw [BitVec.getLsbD_xor, BitVec.getLsbD_twoPow, decide_eq_true hk, Bool.true_and]
  split <;> simp_all [eq_comm]

/-- Settles O15: each mask has one bit, which OR sets and XOR inverts. -/
theorem flagManipulatorChangesOneBit : Obligations.FlagManipulatorChangesOneBit := by
  intro c n
  unfold setAlertEnable toggleAlertEnable setShutdown toggleShutdown
  rw [cfgAlertEn_eq_twoPow, cfgShdn_eq_twoPow]
  exact ⟨getLsbD_or_twoPow c (by decide) n, getLsbD_xor_twoPow c (by decide) n,
    getLsbD_or_twoPow c (by decide) n, getLsbD_xor_twoPow c (by decide) n⟩

/-! ### The byte transport -/

theorem highByte_append_lowByte (v : Half) : highByte v ++ lowByte v = v :=
  BitVec.extractLsb'_append_extractLsb'

/-- Settles O17: the byte sequences are the definition's, and the two halves put together are the payload. -/
theorem payloadsCrossHighByteFirst : Obligations.PayloadsCrossHighByteFirst :=
  ⟨fun _ _ _ => rfl, fun _ _ => rfl, fun v _ _ => ⟨highByte_append_lowByte v, Bool.or_eq_true_iff⟩⟩

end Sys2Proof.Machine

/-! PROOF. One step of a command (41_driver.md, 40_codec.md, 60_exceptions.md): the six ways it can end, said once,
then the step lists, the errors, the frame and the moves of SEQ. -/

namespace Sys2Proof.Machine

open Sys2Proof

/-! ### The steps that make a transaction -/

theorem stepRequest_exists {i : Instr} {k : Nat} (h1 : 1 ≤ k) (hlt : k < lastStep i) (s : State) :
    ∃ r, stepRequest i k s = some r :=
  Option.isSome_iff_exists.1 ((stepRequest_isSome i k s).2 ⟨h1, hlt⟩)

theorem lt_lastStep_of_stepRequest {i : Instr} {k : Nat} {s : State} {r : Request}
    (h : stepRequest i k s = some r) : k < lastStep i :=
  ((stepRequest_isSome i k s).1 (Option.isSome_of_eq_some h)).2

/-! ### A step whose transaction waits, fails or succeeds -/

section
variable {i : Instr} {k : Nat} {s : State} {r : Request} (hk : s.seq = .busy k)
  (hf : k = 1 → operandsFinite i = true) (hr : stepRequest i k s = some r)
include hk hf hr

theorem exec_waiting (ha : s.now.answer = none) : exec i s = .next (s.issue r) := by
  rw [exec_transact hk hf hr, transact_wait ha]

theorem exec_failed {a : Answer} (hp : portFor r s) (ha : s.now.answer = some a) (hfail : a.fail = true) :
    exec i s = .next (afterFailure i (afterTransaction r a s)) := by
  rw [exec_transact hk hf hr, transact_fail ha hfail hp]

theorem exec_answered {a : Answer} (hp : portFor r s) (ha : s.now.answer = some a)
    (hok : a.fail = false) : exec i s = .next (afterData i k a.rdata (afterTransaction r a s)) := by
  rw [exec_transact hk hf hr, transact_ok ha hok hp]

end

/-- Issuing as a whole state, for a port that holds nothing but this request. -/
theorem issue_eq {r : Request} {s : State} (h : portFor r s) :
    s.issue r = { s with
      port := some r, trace := if s.port = none then .request r :: s.trace else s.trace } := by
  rcases h with h | h
  · rw [issue_of_free h, if_pos h]
  · rw [issue_of_standing h, h, if_neg (by simp), ← h]

theorem issue_port_isSome (r : Request) (s : State) : (s.issue r).port.isSome = true := by
  cases hp : s.port with
  | none => rw [issue_of_free hp]; rfl
  | some q => rw [issue_of_standing hp, hp]; rfl

/-! ### The continuations of a step -/

theorem afterFailure_eq (i : Instr) (t : State) : afterFailure i t = { t with
    det := if i = .begin then false else t.det, seq := .idle,
    trace := .response ⟨.xfail, 0⟩ :: t.trace } := by
  unfold afterFailure
  split <;> rfl

/-- BEGIN's end at a manufacturer ID that is not the expected one (41_driver.md R130, step 1). -/
def mismatch (d : Half) (t : State) : State := ((t.setRdTmp d).setDet false).respond .ok 0

/-- Data delivered to step `k`, and on to the next: CFGTMP takes the data when the next step writes CONFIG back,
RDTMP when the step was BEGIN's or READ's read (10_state.md R25, R28). -/
def advance (i : Instr) (k : Nat) (d : Half) (t : State) : State :=
  { t with
    cfgTmp := if writesBack i (k + 1) then d else t.cfgTmp
    rdTmp := if (i = .begin ∧ k = 1) ∨ i = .read then d else t.rdTmp
    seq := .busy (k + 1) }

theorem afterData_mismatch {d : Half} (hd : d ≠ 0x0054) (t : State) :
    afterData .begin 1 d t = mismatch d t := if_neg hd

theorem afterData_eq_advance {i : Instr} {k : Nat} {d : Half} (h : i = .begin → k = 1 → d = 0x0054) (t : State) :
    afterData i k d t = advance i k d t := by
  cases i with
  | begin =>
    by_cases hk : k = 1
    · subst hk
      exact if_pos (h rfl rfl)
    · simp [afterData, advance, hk, writesBack]
      rfl
  | setAlarms lower upper => by_cases hk : k = 4 <;> simp [afterData, advance, hk, writesBack] <;> rfl
  | disAlarms | sdOn | sdOff => by_cases hk : k = 1 <;> simp [afterData, advance, hk, writesBack] <;> rfl
  | read | setRes | decode | encThr | encRes => rfl

section
variable (i : Instr) (s : State)

@[simp] theorem completion_addrSel : (completion i s).addrSel = s.addrSel := by cases i <;> rfl
@[simp] theorem completion_seq : (completion i s).seq = .idle := by cases i <;> rfl
@[simp] theorem completion_cur : (completion i s).cur = s.cur := by cases i <;> rfl
@[simp] theorem completion_cfgTmp : (completion i s).cfgTmp = s.cfgTmp := by cases i <;> rfl
@[simp] theorem completion_rdTmp : (completion i s).rdTmp = s.rdTmp := by cases i <;> rfl
@[simp] theorem completion_offers : (completion i s).offers = s.offers := by cases i <;> rfl
@[simp] theorem completion_port : (completion i s).port = s.port := by cases i <;> rfl
@[simp] theorem completion_script : (completion i s).script = s.script := by cases i <;> rfl
@[simp] theorem completion_time : (completion i s).time = s.time := by cases i <;> rfl

end

/-! ### The ways a step can end -/

/-- The six ways that step `k` of command `i` can end in a next state: DOMAIN, the completion, or its transaction
waiting, failing, ending a BEGIN whose manufacturer ID is another, or going on to the next step. -/
inductive StepResult (i : Instr) (k : Nat) (s : State) : State → Prop
  | domain (hk : k = 1) (hf : operandsFinite i = false) : StepResult i k s (s.respond .domain 0)
  | complete (hk : k = lastStep i) (hf : k = 1 → operandsFinite i = true) :
      StepResult i k s (completion i s)
  | wait (r : Request) (hk : k < lastStep i) (hf : k = 1 → operandsFinite i = true)
      (hr : stepRequest i k s = some r) (ha : s.now.answer = none) : StepResult i k s (s.issue r)
  | failed (r : Request) (a : Answer) (hk : k < lastStep i) (hf : k = 1 → operandsFinite i = true)
      (hr : stepRequest i k s = some r) (ha : s.now.answer = some a) (hfail : a.fail = true) :
      StepResult i k s (afterFailure i ((s.issue r).settle a))
  | mismatched (r : Request) (a : Answer) (hi : i = .begin) (hk : k = 1)
      (hr : stepRequest i k s = some r) (ha : s.now.answer = some a) (hok : a.fail = false)
      (hid : a.rdata ≠ 0x0054) : StepResult i k s (mismatch a.rdata ((s.issue r).settle a))
  | advanced (r : Request) (a : Answer) (hk : k < lastStep i) (hf : k = 1 → operandsFinite i = true)
      (hr : stepRequest i k s = some r) (ha : s.now.answer = some a) (hok : a.fail = false)
      (hid : i = .begin → k = 1 → a.rdata = 0x0054) :
      StepResult i k s (advance i k a.rdata ((s.issue r).settle a))

/-- A step of a command ends in one of the six ways. -/
theorem exec_result {i : Instr} {s t : State} (h : exec i s = .next t) :
    ∃ k, s.seq = .busy k ∧ 1 ≤ k ∧ k ≤ lastStep i ∧ StepResult i k s t := by
  obtain ⟨k, hk, h1, hl, hcase⟩ := exec_cases h
  refine ⟨k, hk, h1, hl, ?_⟩
  rcases hcase with ⟨hk1, hf, rfl⟩ | ⟨hlast, hf, rfl⟩ | ⟨hlt, hf, r, hr, rfl⟩
  · exact .domain hk1 hf
  · exact .complete hlast hf
  rcases transact_cases r (afterFailure i) (afterData i k) s with
    ⟨ha, ht⟩ | ⟨a, ha, hfail, ht⟩ | ⟨a, ha, hok, ht⟩
  · rw [ht]
    exact .wait r hlt hf hr ha
  · rw [ht]
    exact .failed r a hlt hf hr ha hfail
  · rw [ht]
    by_cases hid : i = .begin → k = 1 → a.rdata = 0x0054
    · rw [afterData_eq_advance hid]
      exact .advanced r a hlt hf hr ha hok hid
    · obtain ⟨rfl, rfl, hne⟩ : i = .begin ∧ k = 1 ∧ a.rdata ≠ 0x0054 := by simpa using hid
      rw [afterData_mismatch hne]
      exact .mismatched r a rfl rfl hr ha hok hne

/-- Each of the six ways is what the step does when its conditions hold. -/
theorem StepResult.exec_eq {i : Instr} {k : Nat} {s t : State} (h : StepResult i k s t)
    (hk : s.seq = .busy k) : exec i s = .next t := by
  cases h with
  | domain hk1 hf => exact exec_domain (hk1 ▸ hk) hf
  | complete hlast hf => exact exec_last (hlast ▸ hk) fun h => hf (hlast.trans h)
  | wait r _ hf hr ha => exact exec_waiting hk hf hr ha
  | failed r a _ hf hr ha hfail => simp [exec_transact hk hf hr, State.transact, ha, hfail]
  | mismatched r a hi hk1 hr ha hok hid =>
    subst hi hk1
    simp [exec_transact hk (fun _ => rfl) hr, State.transact, ha, hok, afterData_mismatch hid]
  | advanced r a _ hf hr ha hok hid =>
    simp [exec_transact hk hf hr, State.transact, ha, hok, afterData_eq_advance hid]

/-- Every step of a command's list ends in one of the six ways: there is no other reason to stop. -/
theorem stepResult_exists {i : Instr} {k : Nat} {s : State} (h1 : 1 ≤ k) (hl : k ≤ lastStep i)
    (hk : s.seq = .busy k) : ∃ t, StepResult i k s t := by
  have hnext : ∃ t, exec i s = .next t := by
    by_cases hd : k = 1 ∧ operandsFinite i = false
    · exact ⟨_, exec_domain (hd.1 ▸ hk) hd.2⟩
    have hf : k = 1 → operandsFinite i = true := fun hk1 => by simpa [hk1] using hd
    rcases Nat.lt_or_eq_of_le hl with hlt | rfl
    · obtain ⟨r, hr⟩ := stepRequest_exists h1 hlt s
      exact ⟨_, exec_transact hk hf hr⟩
    · exact ⟨_, exec_last hk hf⟩
  obtain ⟨t, ht⟩ := hnext
  obtain ⟨k', hk', -, -, hres⟩ := exec_result ht
  obtain rfl : k' = k := Seq.busy.inj (hk'.symm.trans hk)
  exact ⟨t, hres⟩

/-! ### The step lists -/

/-- Settles O18: steps 1 to 3 are answered with their data, and step 4 is the completion. -/
theorem beginStepsComplete : Obligations.BeginStepsComplete :=
  fun _ _ => ⟨fun hk ha hp => exec_answered hk (fun _ => rfl) rfl hp ha rfl,
    fun hk ha hp => exec_answered hk nofun rfl hp ha rfl,
    fun hk ha hp => exec_answered hk nofun rfl hp ha rfl, fun hk => exec_last hk nofun⟩

/-- Settles O19: step 1 is answered with its data, and step 2 is the completion, whose decoding is the
two's-complement reading. -/
theorem readStepsComplete : Obligations.ReadStepsComplete := by
  refine fun _ _ => ⟨fun hk ha hp => exec_answered hk (fun _ => rfl) rfl hp ha rfl, fun hk => ?_⟩
  rw [← decodeTemperature_eq_toInt]
  exact exec_last hk nofun

/-- Settles O20: steps 1 to 5 are answered with their data, and step 6 is the completion. -/
theorem setAlarmsStepsComplete : Obligations.SetAlarmsStepsComplete := by
  intro lower upper s d hl hu
  have hfin : operandsFinite (.setAlarms lower upper) = true := by simp [operandsFinite, hl, hu]
  exact ⟨fun hk ha hp => exec_answered hk (fun _ => hfin) rfl hp ha rfl,
    fun hk ha hp => exec_answered hk nofun rfl hp ha rfl,
    fun hk ha hp => exec_answered hk nofun rfl hp ha rfl,
    fun hk ha hp => exec_answered hk nofun rfl hp ha rfl,
    fun hk ha hp => exec_answered hk nofun rfl hp ha rfl, fun hk => exec_last hk nofun⟩

/-- Settles O21: steps 1 and 2 are answered with their data, and step 3 is the completion. -/
theorem flagCommandStepsComplete : Obligations.FlagCommandStepsComplete := by
  rintro i f (⟨rfl, rfl⟩ | ⟨rfl, rfl⟩ | ⟨rfl, rfl⟩) s d <;>
    exact ⟨fun hk ha hp => exec_answered hk (fun _ => rfl) rfl hp ha rfl,
      fun hk ha hp => exec_answered hk nofun rfl hp ha rfl, fun hk => exec_last hk nofun⟩

/-- Settles O22: step 1 is answered with its data, and step 2 is the completion. -/
theorem setResStepsComplete : Obligations.SetResStepsComplete := fun _ _ _ =>
  ⟨fun hk ha hp => exec_answered hk (fun _ => rfl) rfl hp ha rfl, fun hk => exec_last hk nofun⟩

/-- Settles O23: the only step of a codec command is its completion. -/
theorem codecCommandsComplete : Obligations.CodecCommandsComplete := fun _ hk =>
  ⟨fun _ => exec_last hk fun _ => rfl, fun _ hv => exec_last hk fun _ => hv,
    fun _ => exec_last hk fun _ => rfl⟩

/-! ### Errors and waiting -/

/-- Settles O25: the first step of such a command is the DOMAIN response. -/
theorem nonFiniteOperandsCompleteWithDomain : Obligations.NonFiniteOperandsCompleteWithDomain :=
  fun _ _ hf hk => exec_domain hk hf

/-- Settles O27: the failed transaction ends in the command's failure. -/
theorem failedTransactionEndsCommand : Obligations.FailedTransactionEndsCommand := by
  intro i k s r a hk hf hr hp ha hfail
  rw [exec_failed hk (fun _ => hf) hr hp ha hfail, afterFailure_eq]
  rfl

/-- Settles O29: the step issues its request and nothing more. -/
theorem unansweredTransactionWaits : Obligations.UnansweredTransactionWaits := by
  intro i k s r hk hf hr hp ha
  rw [exec_waiting hk (fun _ => hf) hr ha, issue_eq hp]

/-! ### What a step adds to the record -/

/-- The events of one transaction: the request `q` and answers, and nothing else. -/
def TransactionEvents (q : Option Request) (l : List Event) : Prop :=
  ∀ e ∈ l, (∃ r, e = .request r ∧ q = some r) ∨ ∃ a, e = .answer a

namespace TransactionEvents

variable {q : Option Request} {l : List Event}

theorem nil : TransactionEvents q [] := nofun

theorem answer (a : Answer) (h : TransactionEvents q l) : TransactionEvents q (.answer a :: l) :=
  List.forall_mem_cons.2 ⟨.inr ⟨a, rfl⟩, h⟩

theorem noResponse (h : TransactionEvents q l) : NoResponse l := fun r hr => by
  rcases h _ hr with ⟨_, he, -⟩ | ⟨_, he⟩ <;> cases he

theorem noAccept (h : TransactionEvents q l) : NoAccept l := fun p hp => by
  rcases h _ hp with ⟨_, he, -⟩ | ⟨_, he⟩ <;> cases he

theorem request_eq (h : TransactionEvents q l) {r : Request} (hr : .request r ∈ l) : q = some r := by
  rcases h _ hr with ⟨_, he, hq⟩ | ⟨_, he⟩
  · cases he
    exact hq
  · cases he

end TransactionEvents

theorem issue_adds (r : Request) (s : State) :
    ∃ l, TransactionEvents (some r) l ∧ (s.issue r).trace = l ++ s.trace := by
  cases hp : s.port with
  | none =>
    refine ⟨[.request r], fun e he => .inl ⟨r, List.mem_singleton.1 he, rfl⟩, ?_⟩
    rw [issue_of_free hp]
    rfl
  | some q => exact ⟨[], .nil, by rw [issue_of_standing hp]; rfl⟩

/-- A step of a command adds the events of its transaction and, exactly when the command ends, a response, which is
DOMAIN only for an operand that is not finite. -/
theorem StepResult.adds {i : Instr} {k : Nat} {s t : State} (h : StepResult i k s t) (hk : s.seq = .busy k) :
    ∃ l, TransactionEvents (stepRequest i k s) l ∧
      ((t.seq ≠ .idle ∧ t.trace = l ++ s.trace) ∨
       (t.seq = .idle ∧ ∃ r, (r.status = .domain → operandsFinite i = false) ∧
        t.trace = .response r :: (l ++ s.trace))) := by
  have hissue : ∀ {r}, stepRequest i k s = some r →
      ∃ l, TransactionEvents (stepRequest i k s) l ∧ (s.issue r).trace = l ++ s.trace :=
    fun {r} hr => hr ▸ issue_adds r s
  cases h with
  | domain _ hf => exact ⟨[], .nil, .inr ⟨rfl, _, fun _ => hf, rfl⟩⟩
  | complete =>
    obtain ⟨w, hw⟩ := completion_trace i s
    exact ⟨[], .nil, .inr ⟨completion_seq i s, _, by simp, hw⟩⟩
  | wait r _ _ hr =>
    obtain ⟨l, hl, htrace⟩ := hissue hr
    exact ⟨l, hl, .inl ⟨by simp [hk], htrace⟩⟩
  | failed r a _ _ hr =>
    obtain ⟨l, hl, htrace⟩ := hissue hr
    exact ⟨.answer a :: l, hl.answer a, .inr ⟨by rw [afterFailure_eq], ⟨.xfail, 0⟩, by simp, by simp [htrace]⟩⟩
  | mismatched r a _ _ hr =>
    obtain ⟨l, hl, htrace⟩ := hissue hr
    exact ⟨.answer a :: l, hl.answer a, .inr ⟨rfl, ⟨.ok, 0⟩, by simp, by simp [mismatch, htrace]⟩⟩
  | advanced r a _ _ hr =>
    obtain ⟨l, hl, htrace⟩ := hissue hr
    exact ⟨.answer a :: l, hl.answer a, .inl ⟨by simp [advance], by simp [advance, htrace]⟩⟩

theorem expField_of_not_finite {w : Word} (h : finite w = false) : expField w = 0xFF := by
  simpa [finite] using h

theorem operandsFinite_eq_false_iff (i : Instr) : operandsFinite i = false ↔
    (∃ v, i = .encThr v ∧ finite v = false) ∨
    (∃ lower upper, i = .setAlarms lower upper ∧ (finite lower = false ∨ finite upper = false)) := by
  cases i <;> simp [operandsFinite]
  grind

/-- Settles O26: a response that is new in the record is that of the step, and DOMAIN only for a non-finite
operand. -/
theorem domainOnlyForNonFiniteOperands : Obligations.DomainOnlyForNonFiniteOperands := by
  intro i s t w l h htrace hnew
  obtain ⟨k, hk, -, -, hres⟩ := exec_result h
  obtain ⟨l', hl', ⟨-, ht⟩ | ⟨-, r, hdomain, ht⟩⟩ := hres.adds hk
  · cases l' with
    | nil => exact absurd ht hnew
    | cons e l' =>
      obtain ⟨rfl, -⟩ := List.cons.inj (ht.symm.trans htrace)
      exact absurd List.mem_cons_self (hl'.noResponse _)
  · obtain ⟨hr, -⟩ := List.cons.inj (ht.symm.trans htrace)
    cases hr
    rcases (operandsFinite_eq_false_iff i).1 (hdomain rfl) with ⟨v, rfl, hv⟩ | ⟨lower, upper, rfl, hv⟩
    · exact .inl ⟨v, rfl, expField_of_not_finite hv⟩
    · exact .inr ⟨lower, upper, rfl, hv.imp expField_of_not_finite expField_of_not_finite⟩

/-! ### The frame -/

/-- What no step of a command writes: ADDR_SEL, CUR, the offers and the inputs (10_state.md R25). -/
structure Framed (s t : State) : Prop where
  addrSel : t.addrSel = s.addrSel
  cur : t.cur = s.cur
  offers : t.offers = s.offers
  script : t.script = s.script
  time : t.time = s.time

section
variable {i : Instr} {k : Nat} {s t : State} (h : StepResult i k s t)
include h

theorem StepResult.framed : Framed s t := by
  cases h <;> constructor <;> simp [afterFailure_eq, mismatch, advance]

/-- RES is written by SETRES alone, at its last step (41_driver.md R160). -/
theorem StepResult.res_writers (hne : t.res ≠ s.res) :
    ∃ code, i = .setRes code ∧ k = 2 ∧ t.res = code.extractLsb' 0 2 := by
  cases h with
  | complete hk =>
    cases i with
    | setRes code => exact ⟨code, rfl, hk, rfl⟩
    | _ => exact absurd rfl hne
  | domain | wait | failed | mismatched | advanced =>
    simp [afterFailure_eq, mismatch, advance] at hne

/-- DET is written by BEGIN alone, as it ends (41_driver.md R130). -/
theorem StepResult.det_writers (hne : t.det ≠ s.det) : i = .begin ∧ t.seq = .idle := by
  cases h with
  | complete =>
    cases i with
    | begin => exact ⟨rfl, rfl⟩
    | _ => exact absurd rfl hne
  | failed =>
    rw [afterFailure_eq] at hne ⊢
    by_cases hi : i = .begin
    · exact ⟨hi, rfl⟩
    · simp [hi] at hne
  | mismatched _ _ hi => exact ⟨hi, rfl⟩
  | domain | wait | advanced => simp [advance] at hne

/-- CFGTMP is written by the data of the step before a write back of CONFIG (10_state.md R28). -/
theorem StepResult.cfgTmp_writers (hne : t.cfgTmp ≠ s.cfgTmp) : writesBack i (k + 1) = true := by
  cases h with
  | advanced =>
    by_contra hw
    simp [advance, hw] at hne
  | domain | complete | wait | failed | mismatched => simp [afterFailure_eq, mismatch] at hne

/-- RDTMP is written by the data of BEGIN's and READ's read (41_driver.md R130, R135). -/
theorem StepResult.rdTmp_writers (h1 : 1 ≤ k) (hne : t.rdTmp ≠ s.rdTmp) :
    k = 1 ∧ (i = .begin ∨ i = .read) := by
  cases h with
  | mismatched _ _ hi hk => exact ⟨hk, .inl hi⟩
  | advanced _ _ hk =>
    by_cases hw : (i = .begin ∧ k = 1) ∨ i = .read
    · rcases hw with ⟨hi, hk⟩ | rfl
      · exact ⟨hk, .inl hi⟩
      · exact ⟨by simp only [lastStep] at hk; omega, .inr rfl⟩
    · simp [advance, hw] at hne
  | domain | complete | wait | failed => simp [afterFailure_eq] at hne

end

/-- Step `k + 1` writes CONFIG back just when step `k` reads it. -/
theorem writesBack_succ {i : Instr} {k : Nat} (h : writesBack i (k + 1) = true) :
    (k = 1 ∧ (i = .disAlarms ∨ i = .sdOn ∨ i = .sdOff)) ∨
      (k = 4 ∧ ∃ lower upper, i = .setAlarms lower upper) := by
  cases i <;> simp_all [writesBack]

/-- Settles O40: the writers of each element among the six ways a step can end. -/
theorem commandFrame : Obligations.CommandFrame := by
  intro i s t h
  obtain ⟨k, hk, h1, -, hres⟩ := exec_result h
  obtain ⟨haddrSel, hcur, hoffers, hscript, htime⟩ := hres.framed
  refine ⟨haddrSel, hcur, hoffers, hscript, htime, fun hne => ?_, hres.det_writers, fun hne => ?_,
    fun hne => ?_, ?_⟩
  · obtain ⟨code, hi, rfl, hcode⟩ := hres.res_writers hne
    exact ⟨code, hi, hk, hcode⟩
  · rcases writesBack_succ (hres.cfgTmp_writers hne) with ⟨rfl, hi⟩ | ⟨rfl, hi⟩
    · exact .inl ⟨hk, hi⟩
    · exact .inr ⟨hk, hi⟩
  · obtain ⟨rfl, hi⟩ := hres.rdTmp_writers h1 hne
    exact ⟨hk, hi⟩
  · obtain ⟨l, -, ⟨-, ht⟩ | ⟨-, r, -, ht⟩⟩ := hres.adds hk
    · exact ⟨l, ht⟩
    · exact ⟨.response r :: l, ht⟩

/-- Settles O39: a transaction delivered moves on, one that waits stays, and every other end of a step is IDLE. -/
theorem sequencerMovesOneStep : Obligations.SequencerMovesOneStep := by
  intro i s t k hk h
  obtain ⟨k', hk', -, -, hres⟩ := exec_result h
  obtain rfl : k' = k := Seq.busy.inj (hk'.symm.trans hk)
  cases hres with
  | domain | mismatched => exact .inl rfl
  | complete => exact .inl (completion_seq i s)
  | failed => exact .inl (by rw [afterFailure_eq])
  | wait r _ _ _ ha => exact .inr (.inr ⟨by simpa using hk, ha, issue_port_isSome r s⟩)
  | advanced _ _ hlt => exact .inr (.inl ⟨rfl, hlt, lastStep_le_six i⟩)

end Sys2Proof.Machine

/-! PROOF. One step of the machine around a command (10_state.md R21, R27; 60_exceptions.md R171, R175;
70_reset_and_hazards.md R190): the four kinds of step, said once, then reset, offers, priority and the writers of
the control state. -/

namespace Sys2Proof.Machine

open Sys2Proof

/-! ### The kinds of step -/

/-- The state in which a step without reset runs its command: BUSY with the new offer held, or IDLE with the first
packet on offer accepted. -/
inductive Running (s : State) : State → Prop
  | busy (k : Nat) (hr : s.now.rst = false) (hk : s.seq = .busy k) : Running s s.arrive
  | accepted (p : Packet) (rest : List Packet) (hr : s.now.rst = false) (hi : s.seq = .idle)
      (ho : s.offers ++ s.now.offer.toList = p :: rest) : Running s (s.arrive.accept p rest)

theorem Running.fetch_eq {s u : State} (h : Running s u) : s.fetch = u.latched := by
  unfold State.fetch
  cases h with
  | busy k hr hk => simp [hr, hk]
  | accepted p rest hr hi ho => simp [hr, hi, ho]

theorem Running.step_command {s u : State} {i : Instr} (h : Running s u) (hd : decode u.cur = some i) :
    step s = endStep (exec i u) := by
  unfold step
  rw [h.fetch_eq]
  simp [State.latched, hd]

theorem Running.step_illegal {s u : State} (h : Running s u) (hd : decode u.cur = none) :
    step s = .next (u.respond .illegal 0).tick := by
  unfold step
  rw [h.fetch_eq]
  simp [State.latched, hd]

theorem step_reset {s : State} (hr : s.now.rst = true) :
    step s = .next (s.arrive.resetBy s.now.cfgAddrSel s.now.cfgRes).tick := by
  unfold step State.fetch
  simp [hr]

theorem step_idle {s : State} (hr : s.now.rst = false) (hi : s.seq = .idle)
    (ho : s.offers ++ s.now.offer.toList = []) : step s = .next s.arrive.tick := by
  unfold step State.fetch
  simp [hr, hi, ho]

/-- The kinds of step that end in a next state: a reset, IDLE without an offer, an illegal command word, or a step
of a command. -/
inductive Stepped (s : State) : State → Prop
  | reset (hr : s.now.rst = true) : Stepped s (s.arrive.resetBy s.now.cfgAddrSel s.now.cfgRes).tick
  | idle (hr : s.now.rst = false) (hi : s.seq = .idle) (ho : s.offers ++ s.now.offer.toList = []) :
      Stepped s s.arrive.tick
  | illegal (u : State) (hu : Running s u) (hd : decode u.cur = none) :
      Stepped s (u.respond .illegal 0).tick
  | command (u t : State) (i : Instr) (k : Nat) (hu : Running s u) (hd : decode u.cur = some i)
      (hk : u.seq = .busy k) (hres : StepResult i k u t) : Stepped s t.tick

theorem step_result {s t : State} (h : step s = .next t) : Stepped s t := by
  rcases step_cases s with ⟨hr, hs⟩ | ⟨hr, hi, ho, hs⟩ | ⟨hr, u, hu, hs⟩
  · cases hs.symm.trans h
    exact .reset hr
  · cases hs.symm.trans h
    exact .idle hr hi ho
  · have hu : Running s u := by
      rcases hu with ⟨k, hk, rfl⟩ | ⟨hi, p, rest, ho, rfl⟩
      · exact .busy k hr hk
      · exact .accepted p rest hr hi ho
    rcases hs with ⟨hd, hs⟩ | ⟨i, hd, hs⟩
    · cases hs.symm.trans h
      exact .illegal u hu hd
    · obtain ⟨v, hv, rfl⟩ := endStep_eq_next (hs.symm.trans h)
      obtain ⟨k, hk, -, -, hres⟩ := exec_result hv
      exact .command u v i k hu hd hk hres

/-- Each kind of step is what the machine does when its conditions hold. -/
theorem Stepped.step_eq {s t : State} (h : Stepped s t) : step s = .next t := by
  cases h with
  | reset hr => exact step_reset hr
  | idle hr hi ho => exact step_idle hr hi ho
  | illegal u hu hd => exact hu.step_illegal hd
  | command u t i k hu hd hk hres => rw [hu.step_command hd, hres.exec_eq hk, endStep_next]

section
variable {s u : State} (h : Running s u)
include h

theorem Running.addrSel_eq : u.addrSel = s.addrSel := by cases h <;> rfl

theorem Running.res_eq : u.res = s.res := by cases h <;> rfl

theorem Running.det_eq : u.det = s.det := by cases h <;> rfl

theorem Running.port_eq : u.port = s.port := by cases h <;> rfl

end

/-! ### Reset and IDLE -/

/-- Settles O35: a step with `rst` is the reset, and no other step writes ADDR_SEL. -/
theorem resetLoadsConfiguration : Obligations.ResetLoadsConfiguration := by
  refine ⟨fun s hr => ⟨_, step_reset hr, rfl, rfl, rfl, rfl, rfl, rfl, rfl⟩, fun s t hr h => ?_⟩
  cases step_result h with
  | reset hr' => exact absurd (hr'.symm.trans hr) (by decide)
  | idle => rfl
  | illegal u hu => exact hu.addrSel_eq
  | command u v i k hu _ _ hres => exact hres.framed.addrSel.trans hu.addrSel_eq

/-- Settles O36: the fields of the definition. -/
theorem constructionLeavesTheResetState : Obligations.ConstructionLeavesTheResetState :=
  ⟨fun _ _ => ⟨rfl, rfl, rfl, rfl⟩, rfl, rfl⟩

/-- Settles O37: with nothing held and nothing newly offered, a step is the tick alone. -/
theorem idleWithoutOfferWaits : Obligations.IdleWithoutOfferWaits := by
  intro s hr hi ho hn
  have hoffers : s.offers ++ s.now.offer.toList = [] := by simp [ho, hn]
  have harrive : s.arrive = s := by simp [State.arrive, hoffers, ← ho]
  rw [step_idle hr hi hoffers, harrive]
  rfl

/-! ### Taking a packet -/

/-- Settles O34: the command runs in the state that BUSY or acceptance gives it. -/
theorem stepRunsTheDecodedCommand : Obligations.StepRunsTheDecodedCommand :=
  ⟨fun _ p rest _ hr hi ho hd => (Running.accepted p rest hr hi ho).step_command hd,
    fun _ k _ hr hk hd => (Running.busy k hr hk).step_command hd, fun _ _ => ⟨rfl, rfl⟩⟩

/-- Settles O24: a word that is not valid does not decode, and the accepted packet gets the ILLEGAL response. -/
theorem illegalWordsCompleteWithIllegal : Obligations.IllegalWordsCompleteWithIllegal :=
  fun _ p rest hr hi ho hv => (Running.accepted p rest hr hi ho).step_illegal (decode_eq_none_iff.2 hv)

/-- Settles O28: decoding comes first, the operands are tested at step 1, and a transaction comes after both. -/
theorem errorPriority : Obligations.ErrorPriority := by
  intro s p rest hr hi hport ho
  have hu := Running.accepted p rest hr hi ho
  cases hd : decode p with
  | none => exact ⟨_, hu.step_illegal hd, fun _ => rfl, nofun, nofun⟩
  | some i =>
    obtain ⟨v, hres⟩ := stepResult_exists le_rfl (lastStep_pos i)
      (show (s.arrive.accept p rest).seq = .busy 1 from rfl)
    have hstep : step s = .next v.tick := (Stepped.command _ v i 1 hu hd rfl hres).step_eq
    refine ⟨_, hstep, nofun, fun j hj hf => ?_, fun j r a hj hf hq ha hfail => ?_⟩
    · cases hj
      cases (hres.exec_eq rfl).symm.trans (exec_domain rfl hf)
      rfl
    · cases hj
      have hq' : stepRequest i 1 (s.arrive.accept p rest) = some r :=
        (stepRequest_congr i 1 rfl rfl rfl).trans hq
      cases (hres.exec_eq rfl).symm.trans
        (exec_failed rfl (fun _ => hf) hq' (.inl hport) (by simpa using ha) hfail)
      simp [afterTransaction, hport]

theorem StepResult.adds_noAccept {i : Instr} {k : Nat} {s t : State} (h : StepResult i k s t)
    (hk : s.seq = .busy k) : ∃ l, t.trace = l ++ s.trace ∧ NoAccept l := by
  obtain ⟨l, hl, ⟨-, ht⟩ | ⟨-, r, -, ht⟩⟩ := h.adds hk
  · exact ⟨l, ht, hl.noAccept⟩
  · exact ⟨.response r :: l, ht, fun p hp => hl.noAccept p (by simpa using hp)⟩

/-- Settles O38: only acceptance takes a packet, the first, and only it puts an accepted packet into the record. -/
theorem offersAreHeldUntilTaken : Obligations.OffersAreHeldUntilTaken := by
  intro s t h
  cases step_result h with
  | reset => exact .inl ⟨rfl, [.reset], rfl, fun p hp => by simp at hp⟩
  | idle => exact .inl ⟨rfl, [], rfl, fun p hp => by simp at hp⟩
  | illegal u hu =>
    have hresponse : NoAccept [.response ⟨.illegal, 0⟩] := fun p hp => by simp at hp
    cases hu with
    | busy => exact .inl ⟨rfl, [_], rfl, hresponse⟩
    | accepted p rest hr hi ho => exact .inr ⟨hr, hi, p, ho, rfl, [_], rfl, hresponse⟩
  | command u v i k hu _ hk hres =>
    obtain ⟨l, ht, hl⟩ := hres.adds_noAccept hk
    cases hu with
    | busy => exact .inl ⟨hres.framed.offers, l, ht, hl⟩
    | accepted p rest hr hi ho =>
      have hoffers : v.offers = rest := hres.framed.offers
      exact .inr ⟨hr, hi, p, by simpa [hoffers] using ho, hres.framed.cur, l, ht, hl⟩

/-- Settles O41: what a step of a command may write, with the command still in CUR. -/
theorem controlStateWriters : Obligations.ControlStateWriters := by
  intro s t hr h
  refine ⟨resetLoadsConfiguration.2 s t hr h, ?_⟩
  cases step_result h with
  | reset hr' => exact absurd (hr'.symm.trans hr) (by decide)
  | idle => exact ⟨fun hne => absurd rfl hne, fun hne => absurd rfl hne⟩
  | illegal u hu => exact ⟨fun hne => absurd hu.det_eq hne, fun hne => absurd hu.res_eq hne⟩
  | command u v i k hu hd hk hres =>
    have hcur : decode v.cur = some i := by rw [hres.framed.cur, hd]
    refine ⟨fun hne => ?_, fun hne => ?_⟩
    · obtain ⟨rfl, -⟩ := hres.det_writers fun he => hne (he.trans hu.det_eq)
      exact hcur
    · obtain ⟨code, rfl, -⟩ := hres.res_writers fun he => hne (he.trans hu.res_eq)
      exact ⟨code, hcur⟩

end Sys2Proof.Machine

/-! PROOF. The invariant (10_state.md R21 to R23, R27, R28; 20_memory.md R58; 60_exceptions.md R173): each of its
parts is kept by every kind of step, so every run keeps it and none stops. -/

namespace Sys2Proof.Machine

open Sys2Proof

/-! ### Legal states -/

theorem legalSeq_idle_iff {s : State} (h : s.seq = .idle) : LegalSeq s ↔ s.port = none := by
  unfold LegalSeq
  rw [h]

theorem legalSeq_busy_iff {s : State} {k : Nat} (h : s.seq = .busy k) :
    LegalSeq s ↔ ∃ i, decode s.cur = some i ∧ LegalBusy i k s := by
  unfold LegalSeq
  rw [h]

@[simp] theorem stepRequest_tick (i : Instr) (k : Nat) (s : State) :
    stepRequest i k s.tick = stepRequest i k s := stepRequest_congr i k rfl rfl rfl

@[simp] theorem stepRequest_arrive (i : Instr) (k : Nat) (s : State) :
    stepRequest i k s.arrive = stepRequest i k s := stepRequest_congr i k rfl rfl rfl

@[simp] theorem stepRequest_issue (i : Instr) (k : Nat) (r : Request) (s : State) :
    stepRequest i k (s.issue r) = stepRequest i k s := stepRequest_congr i k (by simp) (by simp) (by simp)

theorem stepRequest_last (i : Instr) (s : State) : stepRequest i (lastStep i) s = none := by
  rw [← Option.not_isSome_iff_eq_none, stepRequest_isSome]
  omega

@[simp] theorem legalSeq_tick (s : State) : LegalSeq s.tick ↔ LegalSeq s := by
  cases hs : s.seq with
  | idle => rw [legalSeq_idle_iff (s := s.tick) hs, legalSeq_idle_iff hs, tick_port]
  | busy k =>
    rw [legalSeq_busy_iff (s := s.tick) hs, legalSeq_busy_iff hs]
    simp [LegalBusy]

/-- Command `i` stands at step `k`, about to perform it: what a legal BUSY state and an accepted packet have in
common. Only an accepted packet's operands have not passed the DOMAIN test. -/
structure AtStep (i : Instr) (k : Nat) (s : State) : Prop where
  cur : decode s.cur = some i
  seq : s.seq = .busy k
  one_le : 1 ≤ k
  le_last : k ≤ lastStep i
  finite_or : operandsFinite i = true ∨ (k = 1 ∧ s.port = none)
  port : s.port = none ∨ s.port = stepRequest i k s

theorem LegalBusy.atStep {i : Instr} {k : Nat} {s : State} (hd : decode s.cur = some i) (hk : s.seq = .busy k)
    (h : LegalBusy i k s) : AtStep i k s.arrive := by
  obtain ⟨h1, hl, hf, hp, -⟩ := h
  refine ⟨hd, hk, h1, hl, .inl hf, ?_⟩
  rw [stepRequest_arrive]
  exact hp.symm.imp And.left id

/-- From a legal state, the command that a step runs stands at one of its steps. -/
theorem Running.atStep {s u : State} {i : Instr} {k : Nat} (h : Running s u) (hs : LegalSeq s)
    (hd : decode u.cur = some i) (hk : u.seq = .busy k) : AtStep i k u := by
  cases h with
  | busy =>
    obtain ⟨j, hj, hlegal⟩ := (legalSeq_busy_iff hk).1 hs
    cases hj.symm.trans hd
    exact hlegal.atStep hj hk
  | accepted p rest hr hi ho =>
    obtain rfl : 1 = k := Seq.busy.inj hk
    have hp := (legalSeq_idle_iff hi).1 hs
    exact ⟨hd, rfl, le_rfl, lastStep_pos i, .inr ⟨rfl, hp⟩, .inl hp⟩

/-- From a legal state, only an accepted packet can be illegal. -/
theorem Running.idle_of_illegal {s u : State} (h : Running s u) (hs : LegalSeq s) (hd : decode u.cur = none) :
    s.seq = .idle := by
  cases h with
  | busy k _ hk =>
    obtain ⟨i, hi, -⟩ := (legalSeq_busy_iff hk).1 hs
    cases hi.symm.trans hd
  | accepted _ _ _ hi => exact hi

section
variable {i : Instr} {k : Nat} {s t : State} (h : AtStep i k s)
include h

theorem AtStep.finite (hf : k = 1 → operandsFinite i = true) : operandsFinite i = true :=
  h.finite_or.elim id fun hk => hf hk.1

theorem AtStep.portFor {r : Request} (hr : stepRequest i k s = some r) : portFor r s :=
  h.port.imp id fun hp => hp.trans hr

theorem AtStep.port_of_domain (hf : operandsFinite i = false) : s.port = none :=
  h.finite_or.elim (fun hf' => absurd (hf'.symm.trans hf) (by decide)) And.right

theorem AtStep.port_of_last (hk : k = lastStep i) : s.port = none :=
  h.port.elim id fun hp => hp.trans (hk ▸ stepRequest_last i s)

/-- A step that ends the command leaves nothing on the port. -/
theorem AtStep.port_of_idle (hres : StepResult i k s t) (hidle : t.seq = .idle) : t.port = none := by
  cases hres with
  | domain _ hf => exact h.port_of_domain hf
  | complete hk => rw [completion_port, h.port_of_last hk]
  | wait r => cases hidle.symm.trans ((issue_seq r s).trans h.seq)
  | failed => simp [afterFailure_eq]
  | mismatched | advanced => rfl

/-- A step that leaves the command BUSY leaves it at its step with its request standing, or at the next step. -/
theorem AtStep.legalBusy (hres : StepResult i k s t) (hbusy : t.seq ≠ .idle) :
    (t.seq = .busy k ∧ LegalBusy i k t ∧ s.now.answer = none ∧ k < lastStep i) ∨
    (t.seq = .busy (k + 1) ∧ LegalBusy i (k + 1) t ∧ s.now.answer.isSome = true) := by
  cases hres with
  | domain | mismatched => exact absurd rfl hbusy
  | complete => exact absurd (completion_seq i s) hbusy
  | failed => exact absurd (by rw [afterFailure_eq]) hbusy
  | wait r hlt hf hr ha =>
    have hport := issue_port (h.portFor hr)
    refine .inl ⟨by rw [issue_seq, h.seq], ⟨h.one_le, h.le_last, h.finite hf, .inl ?_, ?_⟩, ha, hlt⟩
    · rw [hport, stepRequest_issue, hr]
    · simp [hport]
  | advanced r a hlt hf hr ha =>
    have h1 := h.one_le
    exact .inr ⟨rfl, ⟨by omega, hlt, h.finite hf, .inr ⟨rfl, by omega⟩, by omega⟩, by rw [ha]; rfl⟩

/-- Before its last step a command whose operands are finite ends only with an answer. -/
theorem AtStep.answered_of_idle (hres : StepResult i k s t) (hlt : k < lastStep i)
    (hf : operandsFinite i = true) (hidle : t.seq = .idle) : s.now.answer.isSome = true := by
  cases hres with
  | domain _ hf' => exact absurd (hf.symm.trans hf') (by decide)
  | complete hlast => omega
  | wait r => cases hidle.symm.trans ((issue_seq r s).trans h.seq)
  | failed _ _ _ _ _ ha | mismatched _ _ _ _ _ ha | advanced _ _ _ _ _ ha => rw [ha]; rfl

theorem AtStep.legalSeq (hres : StepResult i k s t) : LegalSeq t := by
  by_cases hidle : t.seq = .idle
  · exact (legalSeq_idle_iff hidle).2 (h.port_of_idle hres hidle)
  · have hcur : decode t.cur = some i := by rw [hres.framed.cur, h.cur]
    rcases h.legalBusy hres hidle with ⟨hk, hlegal, -⟩ | ⟨hk, hlegal, -⟩
    · exact (legalSeq_busy_iff hk).2 ⟨i, hcur, hlegal⟩
    · exact (legalSeq_busy_iff hk).2 ⟨i, hcur, hlegal⟩

end

/-- Settles O45: a command at a step ends it IDLE with nothing on the port, or at a legal step. -/
theorem legalSequencerKept : Obligations.LegalSequencerKept := by
  intro s t hs h
  cases step_result h with
  | reset => exact (legalSeq_tick _).2 ((legalSeq_idle_iff rfl).2 rfl)
  | idle _ hi =>
    rw [legalSeq_tick]
    exact (legalSeq_idle_iff (s := s.arrive) hi).2 ((legalSeq_idle_iff hi).1 hs)
  | illegal u hu hd =>
    rw [legalSeq_tick, legalSeq_idle_iff rfl, respond_port, hu.port_eq]
    exact (legalSeq_idle_iff (hu.idle_of_illegal hs hd)).1 hs
  | command u v i k hu hd hk hres =>
    rw [legalSeq_tick]
    exact (hu.atStep hs hd hk).legalSeq hres

/-! ### The orderly record -/

/-- The record of a command under way, `failed` telling whether its newest transaction failed: `RecordAgrees` for a
BUSY state, and between a failed transaction and its response. -/
structure Recorded (failed : Bool) (s : State) : Prop where
  orderly : Orderly s.trace
  opened : openCommand s.trace = true
  request : openRequest s.trace = s.port
  fails : justFailed s.trace = failed

theorem recordAgrees_busy_iff {s : State} (h : s.seq ≠ .idle) : RecordAgrees s ↔ Recorded false s := by
  have hb : (s.seq != .idle) = true := bne_iff_ne.2 h
  refine ⟨fun ⟨ho, hc, hr, hf⟩ => ⟨ho, hc.trans hb, hr, hf h⟩, fun ⟨ho, hc, hr, hf⟩ => ?_⟩
  exact ⟨ho, hc.trans hb.symm, hr, fun _ => hf⟩

theorem Recorded.congr {f : Bool} {s t : State} (h : Recorded f s) (htrace : t.trace = s.trace)
    (hport : t.port = s.port) : Recorded f t := by
  obtain ⟨ho, hc, hr, hf⟩ := h
  rw [← htrace] at ho hc hr hf
  exact ⟨ho, hc, hr.trans hport.symm, hf⟩

theorem Recorded.accept {s : State} (h : RecordAgrees s) (hi : s.seq = .idle) (p : Packet) (l : List Packet) :
    Recorded false (s.accept p l) := by
  obtain ⟨ho, hc, hr, -⟩ := h
  exact ⟨⟨by simp [mayFollow, hc, hi], ho⟩, rfl, hr, rfl⟩

theorem Recorded.issue {s : State} (h : Recorded false s) (r : Request) : Recorded false (s.issue r) := by
  obtain ⟨ho, hc, hr, hf⟩ := h
  cases hp : s.port with
  | none =>
    rw [issue_of_free hp]
    exact ⟨⟨by simp [mayFollow, hc, hr, hp, hf], ho⟩, hc, rfl, rfl⟩
  | some q =>
    rw [issue_of_standing hp]
    exact ⟨ho, hc, hr, hf⟩

theorem Recorded.settle {s : State} (h : Recorded false s) (hp : s.port.isSome = true) (a : Answer) :
    Recorded a.fail (s.settle a) := by
  obtain ⟨ho, hc, hr, -⟩ := h
  exact ⟨⟨by simp [mayFollow, hc, hr, hp], ho⟩, hc, rfl, rfl⟩

/-- The response that ends a command: XFAIL exactly after a failure, and 0 unless OK. -/
theorem Recorded.respond {f : Bool} {s t : State} {st : Status} {w : Word} (h : Recorded f s)
    (hidle : t.seq = .idle) (htrace : t.trace = .response ⟨st, w⟩ :: s.trace) (hport : t.port = s.port)
    (hp : s.port = none) (hst : (st == .xfail) = f) (hw : st = .ok ∨ w = 0) : RecordAgrees t := by
  obtain ⟨ho, hc, hr, hf⟩ := h
  unfold RecordAgrees
  rw [htrace, hport, hidle]
  refine ⟨⟨?_, ho⟩, rfl, hr, fun hne => absurd rfl hne⟩
  simpa [mayFollow, hc, hr, hp, hst, hf] using hw

@[simp] theorem recordAgrees_tick (s : State) : RecordAgrees s.tick ↔ RecordAgrees s := Iff.rfl

theorem AtStep.recordAgrees {i : Instr} {k : Nat} {s t : State} (h : AtStep i k s) (hrec : Recorded false s)
    (hres : StepResult i k s t) : RecordAgrees t := by
  have hsettle : ∀ r a, Recorded a.fail ((s.issue r).settle a) := fun r a =>
    (hrec.issue r).settle (issue_port_isSome r s) a
  cases hres with
  | domain _ hf => exact hrec.respond rfl rfl rfl (h.port_of_domain hf) rfl (.inr rfl)
  | complete hk =>
    obtain ⟨w, hw⟩ := completion_trace i s
    exact hrec.respond (completion_seq i s) hw (completion_port i s) (h.port_of_last hk) rfl (.inl rfl)
  | wait r => exact (recordAgrees_busy_iff (by simp [h.seq])).2 (hrec.issue r)
  | failed r a _ _ _ _ hfail =>
    exact (hsettle r a).respond (by rw [afterFailure_eq]) (afterFailure_trace i _) (by rw [afterFailure_eq])
      rfl hfail.symm (.inr rfl)
  | mismatched r a _ _ _ _ hok => exact (hsettle r a).respond rfl rfl rfl rfl hok.symm (.inl rfl)
  | advanced r a _ _ _ _ hok =>
    exact (recordAgrees_busy_iff (by simp [advance])).2 ((hok ▸ hsettle r a).congr rfl rfl)

theorem Running.recorded {s u : State} (h : Running s u) (hrec : RecordAgrees s) : Recorded false u := by
  cases h with
  | busy k _ hk => exact ((recordAgrees_busy_iff (by simp [hk])).1 hrec).congr rfl rfl
  | accepted p rest _ hi => exact Recorded.accept (s := s.arrive) hrec hi p rest

/-- Settles O46: acceptance opens a command, each transaction is issued and answered in turn, and a response closes
the command. -/
theorem orderlyRecordKept : Obligations.OrderlyRecordKept := by
  intro s t hrec hs h
  cases step_result h with
  | reset =>
    exact ⟨⟨rfl, hrec.1⟩, rfl, rfl, fun hne => absurd rfl hne⟩
  | idle => exact hrec
  | illegal u hu hd =>
    have hp : u.port = none :=
      hu.port_eq.trans ((legalSeq_idle_iff (hu.idle_of_illegal hs hd)).1 hs)
    exact (hu.recorded hrec).respond rfl rfl rfl hp rfl (.inr rfl)
  | command u v i k hu hd hk hres =>
    rw [recordAgrees_tick]
    exact (hu.atStep hs hd hk).recordAgrees (hu.recorded hrec) hres

/-! ### The latched data -/

theorem latchesHoldData_of_idle {s : State} (h : s.seq = .idle) : LatchesHoldData s := fun k i hk _ => by
  cases h.symm.trans hk

@[simp] theorem latchesHoldData_tick (s : State) : LatchesHoldData s.tick ↔ LatchesHoldData s := Iff.rfl

/-- Once data has been delivered, the newest answered transaction is that of the step. -/
theorem latestAnswered_settle_issue {s : State} {r : Request} {a : Answer} (hp : portFor r s)
    (hrec : Recorded false s) : latestAnswered ((s.issue r).settle a).trace = some (r, a.rdata) :=
  latestAnswered_answer ((hrec.issue r).request.trans (issue_port hp))

/-- No command writes back at its first step. -/
theorem writesBack_one (i : Instr) : writesBack i 1 = false := by cases i <;> rfl

/-- The step before a write back is the read of CONFIG. -/
theorem stepRequest_of_writesBack_succ {i : Instr} {k : Nat} (h : writesBack i (k + 1) = true) (s : State) :
    stepRequest i k s = some (.read s.devAddr 0x01) := by
  rcases writesBack_succ h with ⟨rfl, rfl | rfl | rfl⟩ | ⟨rfl, lower, upper, rfl⟩ <;> rfl

theorem Running.latchesHoldData {s u : State} (h : Running s u) (hl : LatchesHoldData s) :
    LatchesHoldData u := by
  cases h with
  | busy => exact hl
  | accepted =>
    intro k i hk _
    obtain rfl : 1 = k := Seq.busy.inj hk
    exact ⟨fun h => absurd ((writesBack_one i).symm.trans h) (by decide), fun _ h => absurd h (by decide)⟩

theorem AtStep.latchesHoldData {i : Instr} {k : Nat} {s t : State} (h : AtStep i k s)
    (hrec : Recorded false s) (hl : LatchesHoldData s) (hres : StepResult i k s t) : LatchesHoldData t := by
  have hcur := hres.framed.cur
  cases hres with
  | domain | mismatched => exact latchesHoldData_of_idle rfl
  | complete => exact latchesHoldData_of_idle (completion_seq i s)
  | failed => exact latchesHoldData_of_idle (by rw [afterFailure_eq])
  | wait r =>
    intro k' j hk hd
    obtain ⟨hw, hr⟩ := hl k' j (by simpa using hk) (by simpa using hd)
    have hlatest : latestAnswered (s.issue r).trace = latestAnswered s.trace := by
      cases hp : s.port with
      | none => rw [issue_of_free hp, latestAnswered_request]
      | some q => rw [issue_of_standing hp]
    simpa [hlatest, devAddr_congr (issue_addrSel r s)] using And.intro hw hr
  | advanced r a _ _ hr =>
    intro k' j hk hd
    obtain rfl : k + 1 = k' := Seq.busy.inj hk
    obtain rfl : i = j := Option.some.inj ((h.cur.symm.trans (congrArg decode hcur.symm)).trans hd)
    have hlatest := latestAnswered_settle_issue (a := a) (h.portFor hr) hrec
    refine ⟨fun hw => ?_, fun hi hk2 => ?_⟩
    · rw [stepRequest_of_writesBack_succ hw] at hr
      cases hr
      simpa [advance, hw, State.devAddr] using hlatest
    · subst hi
      obtain rfl : k = 1 := by omega
      cases hr
      simpa [advance, State.devAddr] using hlatest

/-- Settles O48: a latch takes its value with the answer that becomes the newest, and waiting changes neither. -/
theorem latchedDataKept : Obligations.LatchedDataKept := by
  rintro s t ⟨hs, hrec, -, hl⟩ h
  cases step_result h with
  | reset => exact latchesHoldData_of_idle rfl
  | idle _ hi => exact latchesHoldData_of_idle hi
  | illegal => exact latchesHoldData_of_idle rfl
  | command u v i k hu hd hk hres =>
    rw [latchesHoldData_tick]
    exact (hu.atStep hs hd hk).latchesHoldData (hu.recorded hrec) (hu.latchesHoldData hl) hres

/-! ### Every run -/

/-- Settles O44: an IDLE state with an empty record. -/
theorem constructionMeetsInv : Obligations.ConstructionMeetsInv := fun a c =>
  have hidle : (State.construct a c).seq = .idle := rfl
  ⟨(legalSeq_idle_iff hidle).2 rfl, ⟨trivial, rfl, rfl, fun hne => absurd rfl hne⟩,
    fun _ hr => absurd hr List.not_mem_nil, latchesHoldData_of_idle hidle⟩

theorem step_keeps_inv {s t : State} (h : Inv s) (hstep : step s = .next t) : Inv t :=
  have ⟨hs, hrec, hall, _⟩ := h
  ⟨legalSequencerKept s t hs hstep, orderlyRecordKept s t hrec hs hstep,
    onlyAllowedRequestsKept s t hall hstep, latchedDataKept s t h hstep⟩

/-- From a legal state a step has a next state: a command stands at a step of its list. -/
theorem step_total {s : State} (hs : LegalSeq s) : ∃ t, step s = .next t := by
  have hrun : ∀ {u}, Running s u → ∃ t, step s = .next t := fun {u} hu => by
    cases hd : decode u.cur with
    | none => exact ⟨_, hu.step_illegal hd⟩
    | some i =>
      have hbusy : ∃ k, u.seq = .busy k := by
        cases hu with
        | busy k _ hk => exact ⟨k, hk⟩
        | accepted => exact ⟨1, rfl⟩
      obtain ⟨k, hk⟩ := hbusy
      have hat := hu.atStep hs hd hk
      obtain ⟨v, hres⟩ := stepResult_exists hat.one_le hat.le_last hk
      exact ⟨_, (Stepped.command u v i k hu hd hk hres).step_eq⟩
  cases hr : s.now.rst with
  | true => exact ⟨_, step_reset hr⟩
  | false =>
    cases hs : s.seq with
    | busy k => exact hrun (.busy k hr hs)
    | idle =>
      cases ho : s.offers ++ s.now.offer.toList with
      | nil => exact ⟨_, step_idle hr hs ho⟩
      | cons p rest => exact hrun (.accepted p rest hr hs ho)

/-- Settles O49: by induction on the number of steps, each of which has a next state and keeps the invariant. -/
theorem everyRunIsSafe : Obligations.EveryRunIsSafe := by
  intro n
  induction n with
  | zero => exact fun s h => ⟨s, rfl, h⟩
  | succ n ih =>
    intro s h
    obtain ⟨t, ht⟩ := step_total h.1
    rw [run_succ ht]
    exact ih t (step_keeps_inv h ht)

end Sys2Proof.Machine

/-! PROOF. Whole commands (70_reset_and_hazards.md R203, R204; 41_driver.md R140, R141): a silent transport hangs, an
answering one completes the command, and how many transactions that takes. -/

namespace Sys2Proof.Machine

open Sys2Proof

/-! ### Events added one after another -/

theorem NoResponse.append {l m : List Event} (hl : NoResponse l) (hm : NoResponse m) : NoResponse (l ++ m) :=
  fun r hr => (List.mem_append.1 hr).elim (hl r) (hm r)

theorem NoAccept.append {l m : List Event} (hl : NoAccept l) (hm : NoAccept m) : NoAccept (l ++ m) :=
  fun p hp => (List.mem_append.1 hp).elim (hl p) (hm p)

theorem noResponse_nil : NoResponse [] := fun _ => List.not_mem_nil

theorem noAccept_nil : NoAccept [] := fun _ => List.not_mem_nil

/-! ### One step of a legal BUSY state -/

/-- A step without reset from a BUSY state, with the events `l` added before any response: CUR and the offers are
held and one sample of the inputs is used up. -/
structure BusyStep (s t : State) (l : List Event) : Prop where
  step_eq : step s = .next t
  cur : t.cur = s.cur
  script : t.script = s.script.tail
  offers : s.offers <+: t.offers
  noResponse : NoResponse l
  noAccept : NoAccept l

/-- Where such a step from step `k` of command `i` leads: to the command's end, which before the last step takes an
answer, to the same step for want of an answer, or to the next. -/
inductive BusyEnd (i : Instr) (k : Nat) (s t : State) (l : List Event) : Prop
  | ended (r : Response) (hidle : t.seq = .idle) (ha : k < lastStep i → s.now.answer.isSome = true)
      (htrace : t.trace = .response r :: (l ++ s.trace))
  | waited (hk : t.seq = .busy k) (hlegal : LegalBusy i k t) (ha : s.now.answer = none) (hlt : k < lastStep i)
      (htrace : t.trace = l ++ s.trace)
  | moved (hk : t.seq = .busy (k + 1)) (hlegal : LegalBusy i (k + 1) t) (ha : s.now.answer.isSome = true)
      (htrace : t.trace = l ++ s.trace)

theorem LegalBusy.step_exists {i : Instr} {k : Nat} {s : State} (hlegal : LegalBusy i k s)
    (hd : decode s.cur = some i) (hk : s.seq = .busy k) (hr : s.now.rst = false) :
    ∃ t l, BusyStep s t l ∧ BusyEnd i k s t l := by
  have hat := hlegal.atStep hd hk
  obtain ⟨v, hres⟩ := stepResult_exists hat.one_le hat.le_last (s := s.arrive) hk
  have hframe := hres.framed
  obtain ⟨l, hl, htrace⟩ := hres.adds hk
  have htick : ∀ {m}, LegalBusy i m v → LegalBusy i m v.tick := by simp [LegalBusy]
  refine ⟨v.tick, l, ⟨(Stepped.command s.arrive v i k (.busy k hr hk) hd hk hres).step_eq, hframe.cur,
    congrArg List.tail hframe.script, ⟨s.now.offer.toList, hframe.offers.symm⟩, hl.noResponse, hl.noAccept⟩, ?_⟩
  rcases htrace with ⟨hbusy, ht⟩ | ⟨hidle, r, -, ht⟩
  · rcases hat.legalBusy hres hbusy with ⟨hseq, hleg, ha, hlt⟩ | ⟨hseq, hleg, ha⟩
    · exact .waited hseq (htick hleg) (by simpa using ha) hlt ht
    · exact .moved hseq (htick hleg) (by simpa using ha) ht
  · refine .ended r hidle (fun hlt => ?_) ht
    obtain ⟨-, -, hf, -⟩ := hlegal
    rw [← arrive_now]
    exact hat.answered_of_idle hres hlt hf hidle

/-- Settles O30: by induction on the steps, each of which waits. -/
theorem silentTransportHangs : Obligations.SilentTransportHangs := by
  intro n
  induction n with
  | zero =>
    intro s i k _ hk _ _ _ _
    exact ⟨s, [], rfl, hk, rfl, noResponse_nil, noAccept_nil, [], List.append_nil _⟩
  | succ n ih =>
    intro s i k hd hk hlegal hlt hn hsilent
    obtain ⟨p, later, hscript⟩ := List.exists_cons_of_length_pos (Nat.zero_lt_of_lt hn)
    rw [hscript] at hn hsilent
    obtain ⟨hr, ha⟩ := hsilent p List.mem_cons_self
    rw [← now_of_script hscript] at hr ha
    obtain ⟨t, l, hstep, hend⟩ := hlegal.step_exists hd hk hr
    have htail : t.script = later := by rw [hstep.script, hscript, List.tail_cons]
    cases hend with
    | ended _ _ hans => simp [ha, hlt] at hans
    | moved _ _ hans => simp [ha] at hans
    | waited hseq hleg _ _ htrace =>
      obtain ⟨t', l', hrun, hseq', htrace', hm, hm', hoffers'⟩ :=
        ih t i k (hstep.cur ▸ hd) hseq hleg hlt (by simpa [htail] using hn)
          fun q hq => hsilent q (List.mem_cons_of_mem p (htail ▸ hq))
      rw [run_succ hstep.step_eq]
      exact ⟨t', l' ++ l, hrun, hseq', by rw [htrace', htrace, List.append_assoc],
        hm.append hstep.noResponse, hm'.append hstep.noAccept, hstep.offers.trans hoffers'⟩

/-! ### The end of a command -/

/-- Within `m` steps from `s` the command ends, with one response, last, and no packet accepted. -/
def EndsWithin (m : Nat) (s : State) : Prop :=
  ∃ n t r l, n ≤ m ∧ Host.Core.run Sys2Proof.core n s = .next t ∧ t.seq = .idle ∧
    t.trace = .response r :: l ++ s.trace ∧ NoResponse l ∧ NoAccept l

theorem endsWithin_of_ended {m : Nat} {s t : State} {l : List Event} {r : Response} (h : BusyStep s t l)
    (hidle : t.seq = .idle) (htrace : t.trace = .response r :: (l ++ s.trace)) : EndsWithin (m + 1) s :=
  ⟨1, t, r, l, Nat.le_add_left 1 m, run_succ h.step_eq, hidle, htrace, h.noResponse, h.noAccept⟩

theorem EndsWithin.after_step {m : Nat} {s t : State} {l : List Event} (h : BusyStep s t l)
    (htrace : t.trace = l ++ s.trace) (hend : EndsWithin m t) : EndsWithin (m + 1) s := by
  obtain ⟨n, t', r, l', hn, hrun, hidle, htrace', hm, hm'⟩ := hend
  exact ⟨n + 1, t', r, l' ++ l, Nat.succ_le_succ hn, (run_succ h.step_eq).trans hrun, hidle,
    by simp [htrace', htrace], hm.append h.noResponse, hm'.append h.noAccept⟩

/-- Settles O31: by induction on the steps before the last; a step ends the command, waits, or uses an answer for
one of the transactions that are left. -/
theorem answeredCommandCompletes : Obligations.AnsweredCommandCompletes := by
  intro s i k front
  show ∀ later p, _ → _ → _ → _ → _ → _ → _ → EndsWithin (front.length + 1) s
  induction front generalizing s k with
  | nil =>
    intro later p hd hk hlegal hscript _ hp hcount
    have hle : lastStep i ≤ k := hcount
    obtain ⟨t, l, hstep, hend⟩ := hlegal.step_exists hd hk (by rw [now_of_script hscript, hp])
    cases hend with
    | ended r hidle _ htrace => exact endsWithin_of_ended hstep hidle htrace
    | waited _ _ _ hlt => omega
    | moved _ hleg =>
      obtain ⟨-, hlast, -⟩ := hleg
      omega
  | cons q front ih =>
    intro later p hd hk hlegal hscript hrst hp hcount
    have hnow : s.now = q := now_of_script hscript
    obtain ⟨t, l, hstep, hend⟩ := hlegal.step_exists hd hk (by rw [hnow, hrst q List.mem_cons_self])
    have htail : t.script = front ++ p :: later := by rw [hstep.script, hscript]; rfl
    have hrst' : ∀ q' ∈ front, q'.rst = false := fun q' hq => hrst q' (List.mem_cons_of_mem q hq)
    cases hend with
    | ended r hidle _ htrace => exact endsWithin_of_ended hstep hidle htrace
    | waited hseq hleg ha _ htrace =>
      rw [hnow] at ha
      exact (ih t k later p (hstep.cur ▸ hd) hseq hleg htail hrst' hp
        (by simpa [answerCount, ha] using hcount)).after_step hstep htrace
    | moved hseq hleg ha htrace =>
      rw [hnow] at ha
      exact (ih t (k + 1) later p (hstep.cur ▸ hd) hseq hleg htail hrst' hp
        (by simp [answerCount, ha] at hcount ⊢; omega)).after_step hstep htrace

/-! ### Commands whose answers all succeed -/

/-- Command `i` stands at step `k` with a free port, CFGTMP `cfg` and the inputs `pins` to come; since `s₀` only the
events `l` have been added, and ADDR_SEL and RES are still those of `s₀`. -/
structure Stands (i : Instr) (s₀ : State) (k : Nat) (cfg : Half) (l : List Event) (pins : List Pins)
    (s : State) : Prop where
  cur : decode s.cur = some i
  seq : s.seq = .busy k
  port : s.port = none
  addrSel : s.addrSel = s₀.addrSel
  res : s.res = s₀.res
  cfgTmp : s.cfgTmp = cfg
  trace : s.trace = l ++ s₀.trace
  script : s.script = pins

section
variable {i : Instr} {s₀ s u : State} {k : Nat} {cfg d : Half} {l : List Event} {p : Pins} {pins : List Pins}

theorem Stands.running (h : Stands i s₀ k cfg l (p :: pins) s) (hr : p.rst = false) :
    Running s s.arrive ∧ Stands i s₀ k cfg l (p :: pins) s.arrive :=
  ⟨.busy k (by rw [now_of_script h.script, hr]) h.seq,
    ⟨h.cur, h.seq, h.port, h.addrSel, h.res, h.cfgTmp, h.trace, h.script⟩⟩

/-- A command accepted by a step whose input is a successful answer stands at step 1. -/
theorem stands_accepted {q : Packet} {rest : List Packet} (hd : decode q = some i) (hi : s.seq = .idle)
    (hp : s.port = none) (ho : s.offers = q :: rest) (hs : s.script = answering (good d) :: pins) :
    Running s (s.arrive.accept q rest) ∧
      Stands i s 1 s.cfgTmp [.accept q] (answering (good d) :: pins) (s.arrive.accept q rest) := by
  have hnow := now_of_script hs
  exact ⟨.accepted q rest (by rw [hnow]; rfl) hi (by rw [hnow, ho]; exact List.append_nil _),
    ⟨hd, rfl, hp, rfl, rfl, rfl, rfl, hs⟩⟩

/-- The completion step. -/
theorem Running.step_complete (hu : Running s u) (h : Stands i s₀ k cfg l pins u)
    (hf : operandsFinite i = true) (hlast : k = lastStep i) : step s = .next (completion i u).tick :=
  (Stepped.command u _ i k hu h.cur h.seq (.complete hlast fun _ => hf)).step_eq

/-- A transaction issued and answered with success in one step, which goes on to the next. -/
theorem Running.step_answered (hu : Running s u) (h : Stands i s₀ k cfg l (answering (good d) :: pins) u)
    (hf : operandsFinite i = true) (hid : i = .begin → k = 1 → d = 0x0054) {r : Request}
    (hr : stepRequest i k { s₀ with cfgTmp := cfg } = some r) :
    ∃ t, step s = .next t ∧ Stands i s₀ (k + 1) (if writesBack i (k + 1) then d else cfg)
      (.answer (good d) :: .request r :: l) pins t := by
  have hru : stepRequest i k u = some r :=
    (stepRequest_congr i k (t := { s₀ with cfgTmp := cfg }) h.addrSel h.res h.cfgTmp).trans hr
  have hres := StepResult.advanced r (good d) (lt_lastStep_of_stepRequest hru) (fun _ => hf) hru
    (by rw [now_of_script h.script]; rfl) rfl hid
  rw [issue_of_free h.port] at hres
  refine ⟨_, (Stepped.command u _ i k hu h.cur h.seq hres).step_eq, h.cur, rfl, rfl, h.addrSel, h.res, ?_, ?_, ?_⟩
  · rw [← h.cfgTmp]
    rfl
  · exact congrArg (fun m => .answer (good d) :: .request r :: m) h.trace
  · exact congrArg List.tail h.script

theorem Stands.step_answered (h : Stands i s₀ k cfg l (answering (good d) :: pins) s)
    (hf : operandsFinite i = true) (hid : i = .begin → k = 1 → d = 0x0054) {r : Request}
    (hr : stepRequest i k { s₀ with cfgTmp := cfg } = some r) :
    ∃ t, step s = .next t ∧ Stands i s₀ (k + 1) (if writesBack i (k + 1) then d else cfg)
      (.answer (good d) :: .request r :: l) pins t :=
  have ⟨hu, hstands⟩ := h.running rfl
  hu.step_answered hstands hf hid hr

end

/-- With `m` transactions before its last step and every answer a success, a command that goes through its whole
list responds OK after `m + 1` steps and `m` requests. -/
theorem run_answered {i : Instr} {s₀ : State} {id : Half} (hf : operandsFinite i = true) (m : Nat) :
    ∀ {k : Nat} {cfg : Half} {l : List Event} {pins : List Pins} {s u : State}, Running s u →
      Stands i s₀ k cfg l pins u → 1 ≤ k → k + m = lastStep i → (i = .begin → k = 1 → id = 0x0054) →
      m < pins.length → (∀ q ∈ pins, q = answering (good id)) →
      ∃ t l' w, Host.Core.run Sys2Proof.core (m + 1) s = .next t ∧ t.seq = .idle ∧
        t.trace = .response ⟨.ok, w⟩ :: (l' ++ (l ++ s₀.trace)) ∧ requestCount l' = m := by
  induction m with
  | zero =>
    intro k cfg l pins s u hu h _ hlast _ _ _
    obtain ⟨w, hw⟩ := completion_trace i u
    rw [h.trace] at hw
    exact ⟨_, [], w, run_succ (hu.step_complete h hf hlast), completion_seq i u, hw, rfl⟩
  | succ m ih =>
    intro k cfg l pins s u hu h h1 hlast hid hlen hall
    match pins, hlen, hall with
    | q :: q' :: pins, hlen, hall =>
    obtain ⟨rfl, rfl, hrest⟩ : q = answering (good id) ∧ q' = answering (good id) ∧
        ∀ q ∈ pins, q = answering (good id) := by simpa using hall
    obtain ⟨r, hr⟩ := stepRequest_exists (i := i) h1 (by omega) { s₀ with cfgTmp := cfg }
    obtain ⟨t, hstep, ht⟩ := hu.step_answered h hf hid hr
    obtain ⟨hut, ht⟩ := ht.running rfl
    obtain ⟨t', l', w, hrun, hidle, htrace, hcount⟩ := ih hut ht (by omega) (by omega) (fun _ h => by omega)
      (Nat.lt_of_succ_lt_succ hlen) (List.forall_mem_cons.2 ⟨rfl, hrest⟩)
    refine ⟨t', l' ++ [.answer (good id), .request r], w, (run_succ hstep).trans hrun, hidle, ?_, ?_⟩
    · rw [htrace]
      simp
    · rw [← hcount]
      simp [requestCount]

/-- Settles O32: a matched command goes through its list, and a BEGIN that finds another manufacturer ID ends at
step 1. -/
theorem transactionCounts : Obligations.TransactionCounts := by
  intro s p rest i id hi hport hoffers hd hf hlen hall
  have hlast := lastStep_pos i
  obtain ⟨q, pins, hscript⟩ := List.exists_cons_of_length_pos (hlast.trans hlen)
  obtain rfl : q = answering (good id) := hall q (by simp [hscript])
  obtain ⟨hu, h⟩ := stands_accepted hd hi hport hoffers hscript
  by_cases hid : i = .begin → id = 0x0054
  · obtain ⟨t, l, w, hrun, hidle, htrace, hcount⟩ := run_answered hf (lastStep i - 1) hu h le_rfl
      (by omega) (fun hi _ => hid hi) (by rw [← hscript]; omega) (hscript ▸ hall)
    refine ⟨_, t, l, w, by omega, hrun, hidle, by simpa using htrace, ?_⟩
    rw [hcount]
    cases i <;> simp_all [lastStep, transactionCount]
  · obtain ⟨rfl, hne⟩ : i = .begin ∧ id ≠ 0x0054 := by simpa using hid
    have hres := StepResult.mismatched (.read s.devAddr 0x06) (good id) (i := .begin)
      (s := s.arrive.accept p rest) rfl rfl rfl (by rw [now_of_script h.script]; rfl) rfl hne
    refine ⟨1, _, [.answer (good id), .request (.read s.devAddr 0x06)], 0, by decide,
      run_succ (Stepped.command _ _ .begin 1 hu hd rfl hres).step_eq, rfl, ?_, (if_neg hne).symm⟩
    simp [mismatch, issue_of_free, hport]

/-! ### The threshold multiplexer -/

theorem writes_critical {i : Instr} {k : Nat} {s : State} {a : DevAddr} {v : Half}
    (h : stepRequest i k s = some (.write a 0x04 v)) :
    ∃ lower upper, i = .setAlarms lower upper ∧ v = encodeAlarmThreshold upper := by
  cases i <;> simp only [stepRequest] at h
  case setAlarms lower upper =>
    split at h <;> cases h
    exact ⟨lower, upper, rfl, rfl⟩
  case decode | encThr | encRes => cases h
  case begin | read | disAlarms | sdOn | sdOff | setRes => split at h <;> cases h

/-- Settles O33: five answered transactions and the completion, one after another; and a step issues no request but
its own, of which only that of SETALARMS writes CRITICAL_TEMP. -/
theorem thresholdMultiplexer : Obligations.ThresholdMultiplexer := by
  refine ⟨?_, ?_⟩
  · intro s lower upper d1 d2 d3 d4 d5 p6 rest later hi hport hl hu hp6 hoffers hscript
    have hf : operandsFinite (.setAlarms lower upper) = true := by simp [operandsFinite, hl, hu]
    obtain ⟨hrun, h⟩ := stands_accepted (decode_encode _) hi hport hoffers hscript
    obtain ⟨t1, h1, h⟩ := hrun.step_answered h hf nofun rfl
    obtain ⟨t2, h2, h⟩ := h.step_answered hf nofun rfl
    obtain ⟨t3, h3, h⟩ := h.step_answered hf nofun rfl
    obtain ⟨t4, h4, h⟩ := h.step_answered hf nofun rfl
    obtain ⟨t5, h5, h⟩ := h.step_answered hf nofun rfl
    obtain ⟨hrun, h⟩ := h.running hp6
    have h6 := hrun.step_complete h hf rfl
    rw [run_succ h1, run_succ h2, run_succ h3, run_succ h4, run_succ h5, run_succ h6]
    exact ⟨_, rfl, rfl, congrArg (List.cons (Event.response ⟨.ok, 0⟩)) h.trace⟩
  · intro i s t l a v h ht hmem
    obtain ⟨k, hk, -, -, hres⟩ := exec_result h
    obtain ⟨l', hl', ⟨-, ht'⟩ | ⟨-, r, -, ht'⟩⟩ := hres.adds hk
    · obtain rfl := List.append_cancel_right (ht.symm.trans ht')
      exact writes_critical (hl'.request_eq hmem)
    · obtain rfl : l = .response r :: l' := List.append_cancel_right (ht.symm.trans ht')
      exact writes_critical (hl'.request_eq (by simpa using hmem))

end Sys2Proof.Machine

/-! PROOF. What cannot be observed (10_state.md R25, R29; 60_exceptions.md R178): DET by any step, and CUR, CFGTMP
and RDTMP while IDLE, because a command writes each before it reads it. Two runs are compared step by step. -/

namespace Sys2Proof.Machine

open Sys2Proof

/-! ### States that differ in the hidden elements -/

/-- The state with other contents of the elements that no port shows. -/
def State.withHidden (c : Packet) (cfg rd : Half) (d : Bool) (s : State) : State :=
  { s with cur := c, cfgTmp := cfg, rdTmp := rd, det := d }

/-- `t` is `s` but for what no later step reads: DET (not when `sameDet`), CUR while IDLE, CFGTMP outside a write back
of CONFIG and RDTMP outside READ's completion. -/
def Alike (sameDet : Prop) (s t : State) : Prop :=
  ∃ c cfg rd d, t = s.withHidden c cfg rd d ∧ (sameDet → d = s.det) ∧ (s.seq ≠ .idle → c = s.cur) ∧
    ∀ k i, s.seq = .busy k → decode s.cur = some i →
      (writesBack i k = true → cfg = s.cfgTmp) ∧ (i = .read → k = 2 → rd = s.rdTmp)

section
variable {sameDet : Prop} {c : Packet} {cfg rd : Half} {d : Bool} {s t u v : State} {i : Instr} {k : Nat}

theorem Alike.refl : Alike sameDet s s :=
  ⟨s.cur, s.cfgTmp, s.rdTmp, s.det, rfl, fun _ => rfl, fun _ => rfl, fun _ _ _ _ => ⟨fun _ => rfl, fun _ _ => rfl⟩⟩

theorem alike_of_idle (hi : s.seq = .idle) (hd : sameDet → d = s.det) :
    Alike sameDet s (s.withHidden c cfg rd d) :=
  ⟨c, cfg, rd, d, rfl, hd, fun hne => absurd hi hne, fun k i hk => by cases hi.symm.trans hk⟩

theorem Alike.shown (h : Alike sameDet s t) : showSameButDet s t := by
  obtain ⟨c, cfg, rd, d, rfl, -⟩ := h
  exact ⟨rfl, rfl, rfl, rfl, rfl, rfl⟩

theorem Alike.busy (h : Alike sameDet s t) (hk : s.seq = .busy k) : t.cur = s.cur ∧ t.seq = .busy k := by
  obtain ⟨c, cfg, rd, d, rfl, -, hcur, -⟩ := h
  exact ⟨hcur (by simp [hk]), hk⟩

theorem Alike.tick (h : Alike sameDet s t) : Alike sameDet s.tick t.tick := by
  obtain ⟨c, cfg, rd, d, rfl, h⟩ := h
  exact ⟨c, cfg, rd, d, rfl, h⟩

@[simp] theorem now_withHidden : (s.withHidden c cfg rd d).now = s.now := now_congr rfl rfl

theorem issue_withHidden (r : Request) :
    (s.withHidden c cfg rd d).issue r = (s.issue r).withHidden c cfg rd d := by
  cases hp : s.port with
  | none => rw [issue_of_free hp, issue_of_free (s := s.withHidden c cfg rd d) hp]; rfl
  | some q => rw [issue_of_standing hp, issue_of_standing (s := s.withHidden c cfg rd d) hp]

theorem settle_withHidden (a : Answer) :
    (s.withHidden c cfg rd d).settle a = (s.settle a).withHidden c cfg rd d := rfl

/-- Only a write back of CONFIG reads CFGTMP. -/
theorem stepRequest_withHidden (h : writesBack i k = true → cfg = s.cfgTmp) :
    stepRequest i k (s.withHidden c cfg rd d) = stepRequest i k s := by
  cases i <;> simp only [stepRequest]
  case setAlarms | disAlarms | sdOn | sdOff =>
    split <;> first
      | rfl
      | (rw [← h rfl]; rfl)
  all_goals rfl

/-- Only READ's completion reads RDTMP, and none reads DET. -/
theorem completion_withHidden (hk : k = lastStep i) (h : i = .read → k = 2 → rd = s.rdTmp) :
    completion i (s.withHidden c cfg rd d) =
      (completion i s).withHidden c cfg rd (if i = .begin then true else d) := by
  cases i with
  | read =>
    obtain rfl := h rfl hk
    rfl
  | _ => rfl

/-! ### One step of two machines that are alike -/

/-- A step of a command ends in the same way on both sides. -/
theorem StepResult.alike (h : StepResult i k s v) (hs : Alike sameDet s t) (hk : s.seq = .busy k)
    (hd : decode s.cur = some i) : ∃ w, StepResult i k t w ∧ Alike sameDet v w := by
  obtain ⟨c, cfg, rd, d, rfl, hdet, hcur, hlatch⟩ := hs
  obtain ⟨hcfg, hrd⟩ := hlatch k i hk hd
  obtain rfl := hcur (by simp [hk])
  have hreq := stepRequest_withHidden (c := s.cur) (rd := rd) (d := d) (s := s) hcfg
  cases h with
  | domain hk1 hf => exact ⟨_, .domain hk1 hf, alike_of_idle rfl hdet⟩
  | complete hlast hf =>
    refine ⟨_, .complete hlast hf, ?_⟩
    rw [completion_withHidden hlast hrd]
    refine alike_of_idle (completion_seq i s) fun hsame => ?_
    rw [hdet hsame]
    cases i <;> rfl
  | wait r hlt hf hr ha =>
    refine ⟨_, .wait r hlt hf (hreq.trans hr) (now_withHidden ▸ ha), ?_⟩
    rw [issue_withHidden]
    exact ⟨s.cur, cfg, rd, d, rfl, by simpa using hdet, by simp, by simpa using hlatch⟩
  | failed r a hlt hf hr ha hfail =>
    refine ⟨_, .failed r a hlt hf (hreq.trans hr) (now_withHidden ▸ ha) hfail, ?_⟩
    rw [issue_withHidden, settle_withHidden, afterFailure_eq, afterFailure_eq]
    refine alike_of_idle (d := if i = .begin then false else d) rfl fun hsame => ?_
    simp [hdet hsame]
  | mismatched r a hi hk1 hr ha hok hid =>
    refine ⟨_, .mismatched r a hi hk1 (hreq.trans hr) (now_withHidden ▸ ha) hok hid, ?_⟩
    rw [issue_withHidden, settle_withHidden]
    exact alike_of_idle (d := false) rfl fun _ => rfl
  | advanced r a hlt hf hr ha hok hid =>
    refine ⟨_, .advanced r a hlt hf (hreq.trans hr) (now_withHidden ▸ ha) hok hid, ?_⟩
    rw [issue_withHidden, settle_withHidden]
    refine ⟨s.cur, _, _, d, rfl, by simpa [advance] using hdet, by simp [advance], fun k' j hk' hj => ?_⟩
    obtain rfl : k + 1 = k' := Seq.busy.inj hk'
    obtain rfl : i = j := Option.some.inj (hd.symm.trans (by simpa [advance] using hj))
    exact ⟨fun hw => by simp [advance, hw], fun hi _ => by simp [advance, hi]⟩

/-- The two machines run the same command. -/
theorem Running.alike (h : Running s u) (hs : Alike sameDet s t) : ∃ w, Running t w ∧ Alike sameDet u w := by
  obtain ⟨c, cfg, rd, d, rfl, hdet, hcur, hlatch⟩ := hs
  cases h with
  | busy k hr hk =>
    exact ⟨_, .busy k (now_withHidden ▸ hr) hk, c, cfg, rd, d, rfl, hdet, hcur, hlatch⟩
  | accepted p rest hr hi ho =>
    refine ⟨_, .accepted p rest (now_withHidden ▸ hr) hi (now_withHidden ▸ ho), p, cfg, rd, d, rfl, hdet,
      fun _ => rfl, fun k i hk _ => ?_⟩
    obtain rfl : 1 = k := Seq.busy.inj hk
    exact ⟨fun hw => absurd ((writesBack_one i).symm.trans hw) (by decide), fun _ h2 => absurd h2 (by decide)⟩

theorem Running.seq_busy (h : Running s u) : ∃ k, u.seq = .busy k := by
  cases h with
  | busy k _ hk => exact ⟨k, hk⟩
  | accepted => exact ⟨1, rfl⟩

/-- A step outside the command's list is the one reason to stop, and SEQ alone decides it. -/
theorem exec_fault (hk : s.seq = .busy k) (h : ¬ (1 ≤ k ∧ k ≤ lastStep i)) :
    exec i s = .fault .noSuchStep := by
  cases he : exec i s with
  | next v =>
    obtain ⟨k', hk', h1, hl, -⟩ := exec_result he
    obtain rfl : k' = k := Seq.busy.inj (hk'.symm.trans hk)
    exact absurd ⟨h1, hl⟩ h
  | fault e => cases e; rfl
  | refused e => exact absurd he (exec_not_refused i s e)

/-- Machines that are alike stay so, or stop for the same reason. -/
theorem alike_step (h : Alike sameDet s t) : outcomesAgree (Alike sameDet) (step s) (step t) := by
  have hrun : ∀ {u}, Running s u → outcomesAgree (Alike sameDet) (step s) (step t) := fun {u} hu => by
    obtain ⟨w, hw, huw⟩ := hu.alike h
    obtain ⟨k, hk⟩ := hu.seq_busy
    obtain ⟨hcur, hwk⟩ := huw.busy hk
    cases hd : decode u.cur with
    | none =>
      rw [hu.step_illegal hd, hw.step_illegal (hcur ▸ hd)]
      obtain ⟨c, cfg, rd, d, rfl, hdet, -⟩ := huw
      exact alike_of_idle (s := (u.respond .illegal 0).tick) rfl hdet
    | some i =>
      by_cases hb : 1 ≤ k ∧ k ≤ lastStep i
      · obtain ⟨v, hres⟩ := stepResult_exists hb.1 hb.2 hk
        obtain ⟨v', hres', hv⟩ := hres.alike huw hk hd
        rw [(Stepped.command u v i k hu hd hk hres).step_eq,
          (Stepped.command w v' i k hw (hcur ▸ hd) hwk hres').step_eq]
        exact hv.tick
      · rw [hu.step_command hd, hw.step_command (hcur ▸ hd), exec_fault hk hb, exec_fault hwk hb]
        rfl
  cases hr : s.now.rst with
  | true =>
    obtain ⟨c, cfg, rd, d, rfl, -⟩ := h
    rw [step_reset hr, step_reset (now_withHidden ▸ hr), now_withHidden]
    exact Alike.refl
  | false =>
    cases hs : s.seq with
    | busy k => exact hrun (.busy k hr hs)
    | idle =>
      cases ho : s.offers ++ s.now.offer.toList with
      | cons p rest => exact hrun (.accepted p rest hr hs ho)
      | nil =>
        obtain ⟨c, cfg, rd, d, rfl, hdet, -⟩ := h
        rw [step_idle hr hs ho, step_idle (s := s.withHidden c cfg rd d) hr hs ho]
        exact alike_of_idle (s := s.arrive.tick) hs hdet

end

/-! ### Runs -/

theorem run_fault {n : Nat} {s : State} {e : Fault} (h : step s = .fault e) :
    Host.Core.run Sys2Proof.core (n + 1) s = .fault e := by
  have hc : Sys2Proof.core.step s = .fault e := h
  simp only [Host.Core.run, hc]

theorem run_refused {n : Nat} {s : State} {e : Refusal} (h : step s = .refused e) :
    Host.Core.run Sys2Proof.core (n + 1) s = .refused e := by
  have hc : Sys2Proof.core.step s = .refused e := h
  simp only [Host.Core.run, hc]

/-- A relation that steps keep is kept by runs. -/
theorem outcomesAgree_run {same : State → State → Prop}
    (hstep : ∀ s t, same s t → outcomesAgree same (step s) (step t)) (n : Nat) :
    ∀ s t, same s t →
      outcomesAgree same (Host.Core.run Sys2Proof.core n s) (Host.Core.run Sys2Proof.core n t) := by
  induction n with
  | zero => exact fun s t h => h
  | succ n ih =>
    intro s t h
    have h' := hstep s t h
    cases hs : step s <;> cases ht : step t <;> rw [hs, ht] at h'
    case next.next s' t' =>
      rw [run_succ hs, run_succ ht]
      exact ih s' t' h'
    case fault.fault e f => rwa [run_fault hs, run_fault ht]
    case refused.refused e f => rwa [run_refused hs, run_refused ht]
    all_goals exact h'.elim

theorem outcomesAgree.mono {same same' : State → State → Prop} (h : ∀ s t, same s t → same' s t)
    {o o' : Host.Outcome State Fault Refusal} (ho : outcomesAgree same o o') : outcomesAgree same' o o' := by
  cases o <;> cases o' <;> first | exact h _ _ ho | exact ho

/-- Settles O42: a change of DET alone leaves the machines alike. -/
theorem detGatesNothing : Obligations.DetGatesNothing := by
  intro n s d
  have h : Alike False s { s with det := d } :=
    ⟨s.cur, s.cfgTmp, s.rdTmp, d, rfl, False.elim, fun _ => rfl, fun _ _ _ _ => ⟨fun _ => rfl, fun _ _ => rfl⟩⟩
  exact outcomesAgree.mono (fun _ _ => Alike.shown) (outcomesAgree_run (fun _ _ => alike_step) n _ _ h)

/-- Settles O43: while IDLE the latches may differ, and the machines stay alike with the same DET. -/
theorem latchesUnobservableWhileIdle : Obligations.LatchesUnobservableWhileIdle := by
  intro n s t hi hsame
  have h : Alike True s t := by
    rw [← (show _ = t from hsame)]
    exact alike_of_idle (d := s.det) hi fun _ => rfl
  refine outcomesAgree.mono (fun s' t' h' => ⟨h'.shown, ?_⟩) (outcomesAgree_run (fun _ _ => alike_step) n _ _ h)
  obtain ⟨c, cfg, rd, d, rfl, hdet, -⟩ := h'
  exact (hdet trivial).symm

end Sys2Proof.Machine

/-! PROOF. The bench of 95_test_vectors.md (70_reset_and_hazards.md R196, R198, R199): a transaction takes two bench
steps, one that issues it and one that has it answered, and a completion one. -/

namespace Sys2Proof.Machine

open Sys2Proof

/-! ### The reference sensor -/

section
variable {c : RefSensor}

theorem respond_read (h : c.fails.headD false = false) (a : DevAddr) (p : Ptr) :
    c.respond (.read a p) =
      (RefSensor.readReg { c with fails := c.fails.tail } p).map fun x => (good x.1, x.2) := by
  unfold RefSensor.respond
  rw [h]
  rfl

theorem respond_write (h : c.fails.headD false = false) (a : DevAddr) (p : Ptr) (v : Half) :
    c.respond (.write a p v) =
      (RefSensor.writeReg { c with fails := c.fails.tail } p v).map fun x => (good 0, x) := by
  unfold RefSensor.respond
  rw [h]
  rfl

theorem respond_fail (h : c.fails.headD false = true) (r : Request) :
    c.respond r = some ({ fail := true, rdata := 0 }, { c with fails := c.fails.tail }) := by
  unfold RefSensor.respond
  rw [h]
  rfl

end

/-! ### One step of the bench -/

/-- The state with `p` as the pins of the coming step, the last that is laid down. -/
def State.withPins (p : Pins) (s : State) : State := { s with script := [p] }

theorem withPins_arrive {p : Pins} (h : p.offer = none) (s : State) : (s.withPins p).arrive = s.withPins p := by
  have hnow : (s.withPins p).now = p := now_of_script rfl
  unfold State.arrive
  rw [hnow, h, Option.toList_none, List.append_nil]

theorem running_withPins {p : Pins} {k : Nat} {s : State} (hr : p.rst = false) (ho : p.offer = none)
    (hk : s.seq = .busy k) : Running (s.withPins p) (s.withPins p) := by
  have h : Running (s.withPins p) (s.withPins p).arrive := .busy k hr hk
  rwa [withPins_arrive ho] at h

theorem bench_step_eq {b : Bench} {reply : Option (Answer × RefSensor)} {s : State}
    (hreply : b.tcfm.port.bind b.sensor.respond = reply)
    (h : step (b.tcfm.withPins { Pins.quiet with answer := reply.map Prod.fst }) = .next s) :
    b.step = ⟨s, (reply.map Prod.snd).getD b.sensor⟩ := by
  subst hreply
  show (match step (b.tcfm.withPins _) with
    | .next s => ({ tcfm := s, sensor := _ } : Bench)
    | .fault _ => b
    | .refused _ => b) = _
  rw [h]

/-- The bench between two of its steps: command `i` at step `k`, with request `q` on the port, RES and CFGTMP as
given, and nothing on offer. -/
structure BenchAt (i : Instr) (k : Nat) (res : BitVec 2) (cfg : Half) (q : Option Request) (b : Bench) :
    Prop where
  cur : decode b.tcfm.cur = some i
  seq : b.tcfm.seq = .busy k
  res : b.tcfm.res = res
  cfgTmp : b.tcfm.cfgTmp = cfg
  port : b.tcfm.port = q
  offers : b.tcfm.offers = []
  request : ∀ r, q = some r → stepRequest i k b.tcfm = some r

section
variable {i : Instr} {k : Nat} {res : BitVec 2} {cfg d : Half} {b : Bench} {q : Option Request} {r : Request}
  {c : RefSensor} {t : State}

/-- A bench step of a command: the step that SEQ names, with the sensor's reply to the request on the port. -/
theorem BenchAt.step_eq (h : BenchAt i k res cfg q b) {reply : Option (Answer × RefSensor)}
    (hreply : q.bind b.sensor.respond = reply)
    (hres : StepResult i k (b.tcfm.withPins { Pins.quiet with answer := reply.map Prod.fst }) t) :
    b.step = ⟨t.tick, (reply.map Prod.snd).getD b.sensor⟩ := by
  have hu := running_withPins (p := { Pins.quiet with answer := reply.map Prod.fst }) rfl rfl h.seq
  exact bench_step_eq (h.port ▸ hreply) (Stepped.command _ t i k hu h.cur h.seq hres).step_eq

theorem BenchAt.wait (h : BenchAt i k res cfg none b) (hf : operandsFinite i = true)
    (hr : stepRequest i k b.tcfm = some r) :
    BenchAt i k res cfg (some r) b.step ∧ b.step.sensor = b.sensor := by
  have hlt := lt_lastStep_of_stepRequest hr
  have hres := StepResult.wait (s := b.tcfm.withPins { Pins.quiet with answer := none }) r hlt (fun _ => hf)
    ((stepRequest_congr i k rfl rfl rfl).trans hr) rfl
  rw [issue_of_free (s := b.tcfm.withPins _) h.port] at hres
  rw [h.step_eq rfl hres]
  refine ⟨⟨h.cur, h.seq, h.res, h.cfgTmp, rfl, h.offers, fun r' hr' => ?_⟩, rfl⟩
  cases hr'
  exact (stepRequest_congr i k rfl rfl rfl).trans hr

theorem BenchAt.answer (h : BenchAt i k res cfg (some r) b) (hf : operandsFinite i = true)
    (hid : i = .begin → k = 1 → d = 0x0054) (hc : b.sensor.respond r = some (good d, c)) :
    BenchAt i (k + 1) res (if writesBack i (k + 1) then d else cfg) none b.step ∧ b.step.sensor = c := by
  have hr := h.request r rfl
  have hlt := lt_lastStep_of_stepRequest hr
  have hres := StepResult.advanced (s := b.tcfm.withPins { Pins.quiet with answer := some (good d) }) r (good d)
    hlt (fun _ => hf) ((stepRequest_congr i k rfl rfl rfl).trans hr) rfl rfl hid
  rw [issue_of_standing (s := b.tcfm.withPins _) h.port] at hres
  rw [h.step_eq hc hres]
  exact ⟨⟨h.cur, rfl, h.res, by rw [← h.cfgTmp]; rfl, rfl, h.offers, nofun⟩, rfl⟩

/-- A transaction takes two bench steps. -/
theorem BenchAt.transaction (h : BenchAt i k res cfg none b) (hf : operandsFinite i = true)
    (hid : i = .begin → k = 1 → d = 0x0054) (hr : stepRequest i k b.tcfm = some r)
    (hc : b.sensor.respond r = some (good d, c)) :
    BenchAt i (k + 1) res (if writesBack i (k + 1) then d else cfg) none (Bench.run 2 b) ∧
      (Bench.run 2 b).sensor = c := by
  obtain ⟨hwait, hsensor⟩ := h.wait hf hr
  exact hwait.answer hf hid (hsensor ▸ hc)

theorem BenchAt.failure (h : BenchAt i k res cfg none b) (hf : operandsFinite i = true)
    (hr : stepRequest i k b.tcfm = some r) {a : Answer} (ha : a.fail = true)
    (hc : b.sensor.respond r = some (a, c)) :
    (Bench.run 2 b).sensor = c ∧ (Bench.run 2 b).tcfm.seq = .idle ∧
      ∃ l, (Bench.run 2 b).tcfm.trace = .response ⟨.xfail, 0⟩ :: l := by
  obtain ⟨hwait, hsensor⟩ := h.wait hf hr
  have hr' := hwait.request r rfl
  have hlt := lt_lastStep_of_stepRequest hr
  have hres := StepResult.failed (s := b.step.tcfm.withPins { Pins.quiet with answer := some a }) r a
    hlt (fun _ => hf) ((stepRequest_congr i k rfl rfl rfl).trans hr') rfl ha
  show b.step.step.sensor = c ∧ b.step.step.tcfm.seq = .idle ∧
    ∃ l, b.step.step.tcfm.trace = .response ⟨.xfail, 0⟩ :: l
  rw [hwait.step_eq (reply := some (a, c)) (hsensor ▸ hc) hres]
  exact ⟨rfl, by rw [tick_seq, afterFailure_eq], _, afterFailure_trace i _⟩

/-- A completion takes one bench step, and leaves the bench between two commands. -/
theorem BenchAt.complete (h : BenchAt i k res cfg none b) (hf : operandsFinite i = true) (hk : k = lastStep i) :
    b.step.sensor = b.sensor ∧ b.step.tcfm.seq = .idle ∧ b.step.tcfm.port = none ∧ b.step.tcfm.offers = [] ∧
      (i = .begin → b.step.tcfm.det = true) := by
  have hres := StepResult.complete (s := b.tcfm.withPins { Pins.quiet with answer := none }) hk fun _ => hf
  rw [h.step_eq rfl hres]
  refine ⟨rfl, completion_seq i _, (completion_port i _).trans h.port, (completion_offers i _).trans h.offers, ?_⟩
  rintro rfl
  rfl

end

/-! ### Issuing a command -/

/-- The bench with the packet of command `i` accepted. -/
def Bench.accepted (i : Instr) (b : Bench) : Bench := { b with tcfm := b.tcfm.accept (encode i) [] }

theorem accepted_benchAt {b : Bench} (hport : b.tcfm.port = none) (i : Instr) :
    BenchAt i 1 b.tcfm.res b.tcfm.cfgTmp none (b.accepted i) :=
  ⟨decode_encode i, rfl, rfl, rfl, hport, rfl, nofun⟩

/-- The first bench step accepts the packet and performs the first step of its command. -/
theorem issue_eq_run {b : Bench} (hseq : b.tcfm.seq = .idle) (hport : b.tcfm.port = none) (i : Instr) (n : Nat) :
    b.issue (encode i) (n + 1) = Bench.run (n + 1) (b.accepted i) := by
  obtain ⟨v, hres⟩ := stepResult_exists (s := (b.accepted i).tcfm.withPins Pins.quiet) le_rfl (lastStep_pos i) rfl
  have hu : Running (({ b.tcfm with offers := [encode i] } : State).withPins Pins.quiet)
      ((b.accepted i).tcfm.withPins Pins.quiet) := .accepted (encode i) [] rfl hseq rfl
  have hoffered : Bench.step { b with tcfm := { b.tcfm with offers := [encode i] } } = ⟨v.tick, b.sensor⟩ :=
    bench_step_eq (reply := none) (by rw [hport]; rfl)
      (Stepped.command _ v i 1 hu (decode_encode i) rfl hres).step_eq
  have haccepted : (b.accepted i).step = ⟨v.tick, b.sensor⟩ :=
    (accepted_benchAt hport i).step_eq (reply := none) rfl hres
  show Bench.run n (Bench.step _) = Bench.run n (b.accepted i).step
  rw [hoffered, haccepted]

theorem bench_run_add (m n : Nat) : ∀ b : Bench, Bench.run (m + n) b = Bench.run n (Bench.run m b) := by
  induction m with
  | zero => exact fun b => by rw [Nat.zero_add]; rfl
  | succ m ih =>
    intro b
    rw [Nat.add_right_comm]
    exact ih b.step

/-! ### DISALARMS, SDON and SDOFF -/

/-- The commands that read CONFIG, write it back modified by `f`, and complete (41_driver.md R145, R150, R155). -/
structure FlagCommand (i : Instr) (f : Half → Half) : Prop where
  notBegin : i ≠ .begin
  finite : operandsFinite i = true
  last : lastStep i = 3
  reads : ∀ s, stepRequest i 1 s = some (.read s.devAddr 0x01)
  latches : writesBack i 2 = true
  writes : ∀ s, stepRequest i 2 s = some (.write s.devAddr 0x01 (f s.cfgTmp))

theorem disAlarms_flagCommand : FlagCommand .disAlarms toggleAlertEnable :=
  ⟨nofun, rfl, rfl, fun _ => rfl, rfl, fun _ => rfl⟩

theorem sdOn_flagCommand : FlagCommand .sdOn toggleShutdown :=
  ⟨nofun, rfl, rfl, fun _ => rfl, rfl, fun _ => rfl⟩

theorem sdOff_flagCommand : FlagCommand .sdOff setShutdown :=
  ⟨nofun, rfl, rfl, fun _ => rfl, rfl, fun _ => rfl⟩

/-- The write back and the completion, which end a read-modify-write of CONFIG in three bench steps. -/
theorem BenchAt.writeBack {i : Instr} {k : Nat} {res : BitVec 2} {cfg v : Half} {b : Bench}
    (h : BenchAt i k res cfg none b) (hf : operandsFinite i = true) (hid : i ≠ .begin) (hk : k + 1 = lastStep i)
    (hr : stepRequest i k b.tcfm = some (.write b.tcfm.devAddr 0x01 v)) (hfails : b.sensor.fails = []) :
    quietBench (Bench.run 3 b) ∧ (Bench.run 3 b).sensor.config = v := by
  have hwrite : b.sensor.respond (.write b.tcfm.devAddr 0x01 v) = some (good 0, { b.sensor with
      fails := b.sensor.fails.tail, config := v }) := respond_write (by rw [hfails]; rfl) _ _ _
  obtain ⟨h', hsensor⟩ := h.transaction hf (fun hi => absurd hi hid) hr hwrite
  obtain ⟨hs, hseq, hport, hoffers, -⟩ := h'.complete hf hk
  have hrun : (Bench.run 3 b).sensor = { b.sensor with fails := b.sensor.fails.tail, config := v } :=
    hs.trans hsensor
  exact ⟨⟨hseq, hport, hoffers, by rw [hrun, hfails]; rfl⟩, by rw [hrun]⟩

theorem FlagCommand.issue {i : Instr} {f : Half → Half} (hi : FlagCommand i f) {b : Bench} (h : quietBench b) :
    quietBench (b.issue (encode i) 5) ∧ (b.issue (encode i) 5).sensor.config = f b.sensor.config := by
  have ⟨hseq, hport, _, hfails⟩ := h
  have hread : (b.accepted i).sensor.respond (.read (b.accepted i).tcfm.devAddr 0x01) =
      some (good b.sensor.config, { b.sensor with fails := b.sensor.fails.tail }) :=
    respond_read (by show b.sensor.fails.headD false = false; rw [hfails]; rfl) _ _
  obtain ⟨h2, hsensor⟩ := (accepted_benchAt hport i).transaction hi.finite (fun h => absurd h hi.notBegin)
    (hi.reads _) hread
  rw [if_pos hi.latches] at h2
  rw [issue_eq_run hseq hport, bench_run_add 2 3]
  refine h2.writeBack hi.finite hi.notBegin hi.last.symm ?_ (by rw [hsensor, hfails]; rfl)
  rw [hi.writes, h2.cfgTmp]

/-! ### SETALARMS -/

section
variable {lower upper : Word} {res : BitVec 2} {cfg : Half} {b : Bench}

/-- The reference sensor after the first `j` transactions of SETALARMS, none of them marked FAIL: the threshold
writes come first, and the fourth transaction reads CONFIG (41_driver.md R140). -/
def thresholdsWritten (lower upper : Word) (j : Nat) (c : RefSensor) : RefSensor :=
  { c with
    alertUpper := if 1 ≤ j then encodeAlarmThreshold upper else c.alertUpper
    critical := if 2 ≤ j then encodeAlarmThreshold upper else c.critical
    alertLower := if 3 ≤ j then encodeAlarmThreshold lower else c.alertLower
    fails := c.fails.drop j }

/-- What the sensor replies to transaction `j + 1` of SETALARMS, one of the first four. -/
theorem respond_setAlarms {c : RefSensor} {s : State} {j : Nat} (hj : j < 4)
    (hfails : (c.fails.drop j).headD false = false) :
    ∃ r d, stepRequest (.setAlarms lower upper) (j + 1) s = some r ∧
      (thresholdsWritten lower upper j c).respond r = some (good d, thresholdsWritten lower upper (j + 1) c) ∧
      (j = 3 → d = c.config) := by
  match j, hj with
  | 0, _ =>
    refine ⟨_, 0, rfl, (respond_write hfails _ _ _).trans ?_, nofun⟩
    simp [thresholdsWritten, RefSensor.writeReg, Config.ptrConfig, Config.ptrAlertUpper]
  | 1, _ =>
    refine ⟨_, 0, rfl, (respond_write hfails _ _ _).trans ?_, nofun⟩
    have hdrop : c.fails.tail.tail = c.fails.drop 2 := by
      rw [← List.drop_one, ← List.drop_one, List.drop_drop]
    simp [thresholdsWritten, RefSensor.writeReg, Config.ptrConfig, Config.ptrAlertUpper, Config.ptrAlertLower,
      Config.ptrCritical, hdrop]
  | 2, _ =>
    refine ⟨_, 0, rfl, (respond_write hfails _ _ _).trans ?_, nofun⟩
    simp [thresholdsWritten, RefSensor.writeReg, Config.ptrConfig, Config.ptrAlertUpper, Config.ptrAlertLower]
  | 3, _ =>
    refine ⟨_, c.config, rfl, (respond_read hfails _ _).trans ?_, fun _ => rfl⟩
    simp [thresholdsWritten, RefSensor.readReg, Config.ptrConfig]

/-- SETALARMS before its step `j + 1`, after `j` transactions that succeeded. -/
theorem BenchAt.setAlarms_first (h : BenchAt (.setAlarms lower upper) 1 res cfg none b)
    (hf : operandsFinite (.setAlarms lower upper) = true) (j : Nat) (hj : j ≤ 4)
    (hfails : ∀ m, m < j → (b.sensor.fails.drop m).headD false = false) :
    BenchAt (.setAlarms lower upper) (j + 1) res (if j = 4 then b.sensor.config else cfg) none
        (Bench.run (2 * j) b) ∧
      (Bench.run (2 * j) b).sensor = thresholdsWritten lower upper j b.sensor := by
  induction j with
  | zero => exact ⟨h, rfl⟩
  | succ j ih =>
    obtain ⟨hat, hsensor⟩ := ih (by omega) fun m hm => hfails m (by omega)
    obtain ⟨r, d, hr, hrespond, hd⟩ := respond_setAlarms (lower := lower) (upper := upper)
      (s := (Bench.run (2 * j) b).tcfm) (by omega) (hfails j (by omega))
    obtain ⟨hat', hsensor'⟩ := hat.transaction hf nofun hr (hsensor ▸ hrespond)
    rw [Nat.mul_succ, bench_run_add]
    refine ⟨?_, hsensor'⟩
    by_cases hj3 : j = 3
    · obtain rfl := hd hj3
      subst hj3
      exact hat'
    · have hw : writesBack (.setAlarms lower upper) (j + 1 + 1) = false := by simp [writesBack, hj3]
      rw [hw, if_neg (by decide), if_neg (by omega)] at hat'
      rwa [if_neg (by omega)]

theorem setAlarms_issue (hf : operandsFinite (.setAlarms lower upper) = true) (h : quietBench b) :
    quietBench (b.issue (encode (.setAlarms lower upper)) 11) ∧
      (b.issue (encode (.setAlarms lower upper)) 11).sensor.config = setAlertEnable b.sensor.config := by
  have ⟨hseq, hport, _, hfails⟩ := h
  obtain ⟨h5, hsensor⟩ := (accepted_benchAt hport (.setAlarms lower upper)).setAlarms_first hf 4 le_rfl fun m _ => by
    show (b.sensor.fails.drop m).headD false = false
    simp [hfails]
  rw [issue_eq_run hseq hport, bench_run_add 8 3]
  refine h5.writeBack hf nofun rfl ?_ ?_
  · exact congrArg (fun v => some (Request.write _ 0x01 (setAlertEnable v))) h5.cfgTmp
  · rw [hsensor]
    show b.sensor.fails.drop 4 = []
    simp [hfails]

end

/-! ### The statements -/

/-- A command that keeps the bench quiet and maps CONFIG by `f`, repeated, maps it by the iterate of `f`. -/
theorem config_iterate {g : Bench → Bench} {f : Half → Half}
    (hg : ∀ b, quietBench b → quietBench (g b) ∧ (g b).sensor.config = f b.sensor.config) (n : Nat) {b : Bench}
    (h : quietBench b) : quietBench (g^[n] b) ∧ (g^[n] b).sensor.config = f^[n] b.sensor.config := by
  induction n with
  | zero => exact ⟨h, rfl⟩
  | succ n ih =>
    obtain ⟨hquiet, hconfig⟩ := ih
    rw [Function.iterate_succ_apply', Function.iterate_succ_apply', ← hconfig]
    exact hg _ hquiet

/-- A flag inverted by `f` is inverted `n` times by its iterate. -/
theorem flag_toggle_iterate {p : Half → Bool} {f : Half → Half} (h : ∀ c, p (f c) = !p c) (n : Nat) (c : Half) :
    p (f^[n] c) = (p c ^^ decide (n % 2 = 1)) := by
  induction n with
  | zero => simp
  | succ n ih =>
    rw [Function.iterate_succ_apply', h, ih]
    rcases Nat.mod_two_eq_zero_or_one n with hn | hn <;> simp [Nat.add_mod, hn]

/-- A flag that `f` sets is set by its iterate. -/
theorem flag_set_iterate {p : Half → Bool} {f : Half → Half} (h : ∀ c, p (f c) = true) {n : Nat} (hn : 1 ≤ n)
    (c : Half) : p (f^[n] c) = true := by
  obtain ⟨m, rfl⟩ := Nat.exists_eq_add_of_le' hn
  rw [Function.iterate_succ_apply', h]

theorem alertEnabled_toggleAlertEnable (c : Half) : alertEnabled (toggleAlertEnable c) = !alertEnabled c :=
  have ⟨_, htoggle, _, _⟩ := flagManipulatorChangesOneBit c 3
  htoggle

theorem shutDown_toggleShutdown (c : Half) : shutDown (toggleShutdown c) = !shutDown c :=
  have ⟨_, _, _, htoggle⟩ := flagManipulatorChangesOneBit c 8
  htoggle

theorem alertEnabled_setAlertEnable (c : Half) : alertEnabled (setAlertEnable c) = true :=
  have ⟨hset, _, _, _⟩ := flagManipulatorChangesOneBit c 3
  hset

theorem shutDown_setShutdown (c : Half) : shutDown (setShutdown c) = true :=
  have ⟨_, _, hset, _⟩ := flagManipulatorChangesOneBit c 8
  hset

/-- Settles O50: each command keeps the bench quiet and maps CONFIG by its flag operation. -/
theorem repeatedFlagCommands : Obligations.RepeatedFlagCommands := by
  intro n b lower upper h hl hu
  have hf : operandsFinite (.setAlarms lower upper) = true := by simp [operandsFinite, hl, hu]
  refine ⟨?_, ?_, fun hn => ?_, fun hn => ?_⟩
  · rw [(config_iterate (fun _ => disAlarms_flagCommand.issue) n h).2]
    exact flag_toggle_iterate alertEnabled_toggleAlertEnable n _
  · rw [(config_iterate (fun _ => sdOn_flagCommand.issue) n h).2]
    exact flag_toggle_iterate shutDown_toggleShutdown n _
  · rw [(config_iterate (fun _ => setAlarms_issue hf) n h).2]
    exact flag_set_iterate alertEnabled_setAlertEnable hn _
  · rw [(config_iterate (fun _ => sdOff_flagCommand.issue) n h).2]
    exact flag_set_iterate shutDown_setShutdown hn _

/-- Settles O51: the read of the manufacturer ID, the two writes, and the completion. -/
theorem beginClearsConfig : Obligations.BeginClearsConfig := by
  intro b h hid
  have ⟨hseq, hport, _, hfails⟩ := h
  have hread : ∀ a, b.sensor.respond (.read a 0x06) = some (good 0x0054, b.sensor) := fun a => by
    rw [respond_read (by rw [hfails]; rfl), ← hid, hfails]
    exact congrArg (fun l => some (good b.sensor.mfgId, { b.sensor with fails := l })) hfails.symm
  obtain ⟨h2, hs2⟩ := (accepted_benchAt hport .begin).transaction rfl (fun _ _ => rfl) rfl (hread _)
  obtain ⟨h3, hs3⟩ := h2.transaction (d := 0) rfl nofun rfl
    ((respond_write (by rw [hs2, hfails]; rfl) _ _ _).trans rfl)
  obtain ⟨h4, hs4⟩ := h3.transaction (d := 0) rfl nofun rfl
    ((respond_write (by rw [hs3, hs2, hfails]; rfl) _ _ _).trans rfl)
  obtain ⟨hs, -, -, -, hdet⟩ := h4.complete rfl rfl
  have hrun : b.issue (encode .begin) 7 = (Bench.run 2 (Bench.run 2 (Bench.run 2 (b.accepted .begin)))).step :=
    issue_eq_run hseq hport .begin 6
  have hsensor : (b.issue (encode .begin) 7).sensor =
      { b.sensor with config := 0x0000, resolution := encodeResolution (b.tcfm.res.setWidth 8) } := by
    rw [hrun, hs, hs4, hs3, hs2, h2.res, hfails]
    exact congrArg (fun l => { b.sensor with
      fails := l, config := 0x0000, resolution := encodeResolution (b.tcfm.res.setWidth 8) }) hfails.symm
  have hconfig : (b.issue (encode .begin) 7).sensor.config = 0x0000 := by rw [hsensor]
  exact ⟨hsensor, by rw [hrun]; exact hdet rfl, by rw [hconfig]; decide, by rw [hconfig]; decide⟩

/-- The marks of a sensor whose transaction `j + 1` fails. -/
theorem fails_before {j m : Nat} (h : m < j) :
    ((List.replicate j false ++ [true]).drop m).headD false = false := by
  obtain ⟨n, hn⟩ := Nat.exists_eq_add_of_lt h
  rw [List.drop_append_of_le_length (by simp; omega), List.drop_replicate,
    show j - m = n + 1 by omega]
  rfl

/-- The bench whose sensor will mark transaction `j + 1` FAIL, and no other. -/
def Bench.failingAt (j : Nat) (b : Bench) : Bench :=
  { b with sensor := { b.sensor with fails := List.replicate j false ++ [true] } }

/-- Settles O52: the transactions before the one that is marked FAIL succeed, and the sensor keeps what they wrote. -/
theorem partialSetAlarms : Obligations.PartialSetAlarms := by
  intro b lower upper j ⟨hseq, hport, hoffers, hfails⟩ hl hu hj
  have hf : operandsFinite (.setAlarms lower upper) = true := by simp [operandsFinite, hl, hu]
  have hdrop : (List.replicate j false ++ [true]).drop j = [true] := by simp
  obtain ⟨hat, hsensor⟩ := (accepted_benchAt (b := b.failingAt j) hport (.setAlarms lower upper)).setAlarms_first
    hf j (by omega) fun m hm => fails_before hm
  obtain ⟨r, hr⟩ := stepRequest_exists (i := .setAlarms lower upper) (Nat.le_add_left 1 j)
    (Nat.succ_lt_succ hj) (Bench.run (2 * j) ((b.failingAt j).accepted (.setAlarms lower upper))).tcfm
  have hmarked : (Bench.run (2 * j) ((b.failingAt j).accepted (.setAlarms lower upper))).sensor.fails = [true] := by
    rw [hsensor]
    exact hdrop
  obtain ⟨hs, hidle, l, htrace⟩ := hat.failure hf hr rfl (respond_fail (by rw [hmarked]; rfl) r)
  have hrun : (b.failingAt j).issue (encode (.setAlarms lower upper)) (2 * (j + 1)) =
      Bench.run 2 (Bench.run (2 * j) ((b.failingAt j).accepted (.setAlarms lower upper))) := by
    rw [← bench_run_add]
    exact issue_eq_run (b := b.failingAt j) hseq hport (.setAlarms lower upper) (2 * j + 1)
  refine ⟨l, (b.failingAt j).issue (encode (.setAlarms lower upper)) (2 * (j + 1)), rfl, ?_,
    by rw [hrun]; exact hidle, by rw [hrun]; exact htrace⟩
  rw [hrun, hs, hmarked, hsensor]
  exact congrArg (fun m => { b.sensor with
    alertUpper := if 1 ≤ j then encodeAlarmThreshold upper else b.sensor.alertUpper
    critical := if 2 ≤ j then encodeAlarmThreshold upper else b.sensor.critical
    alertLower := if 3 ≤ j then encodeAlarmThreshold lower else b.sensor.alertLower
    fails := m }) hfails.symm

end Sys2Proof.Machine
